-- ==== Sys2Proof/Word.lean ====
section
/-!
DEFINITION. The widths of the values DESKP handles. Every value is unsigned (R11).
-/

namespace Sys2Proof

/-- A host register or command word: 64 bits (R8, DATA_W). -/
abbrev Word := BitVec 64

/-- A register index: 8 bits (R61, REG_INDEX_W). -/
abbrev RegIndex := BitVec 8

/-- A host transaction: 73 bits, DIR, IDX, DATA (R80). -/
abbrev Transaction := BitVec 73

/-- An entry of the host table, and the SRCW and TLEN operands: 7 bits (R42, R83, R84). -/
abbrev Entry := BitVec 7

/-- A permuted key `k_plus[0]`, or `C ++ D`: 56 bits (R37, R130). -/
abbrev PermutedKey := BitVec 56

/-- A round subkey: 48 bits (R38). -/
abbrev Subkey := BitVec 48

/-- A half of the permuted key: 28 bits (R39). -/
abbrev Half := BitVec 28

end Sys2Proof
end

