-- ==== Sys2Proof/Syntax.lean ====
section
/-!
DEFINITION. The instructions (one constructor per row of spec/opcode_table.json), their encoded form, the register names
and the host assembly lines (R91, R92).
-/

namespace Sys2Proof

/-- The nine rows of the opcode table: the seven outcomes of decoding a command word (R82, R86), which the engine
completes, and the two host transactions (R80), which the host performs. -/
inductive Instr where
  /-- NOP, command word 0 (R162). -/
  | nop
  /-- PERM with its source width and table length (R107). -/
  | perm (srcw tlen : Entry)
  /-- PC1 alone (R134). -/
  | pc1
  /-- PC2 alone (R135). -/
  | pc2
  /-- KSGEN, the whole key schedule (R133). -/
  | ksgen
  /-- IP, the initial permutation (R153). -/
  | ip
  /-- ILLEGAL, the default row, with the command word that matched no other row (R163). -/
  | illegal (w : Word)
  /-- RD, a host read of a register index (R64). -/
  | rd (idx : RegIndex)
  /-- WR, a host write of a register index (R65). -/
  | wr (idx : RegIndex) (data : Word)
  deriving DecidableEq, Repr

/-- The commands are run by the engine; RD and WR by the host (R7). -/
def Instr.isCommand : Instr → Bool
  | .nop | .perm _ _ | .pc1 | .pc2 | .ksgen | .ip | .illegal _ => true
  | .rd _ | .wr _ _ => false

/-- The two encoded forms: a 64-bit command word (R81) and a 73-bit host transaction (R80). -/
inductive Encoded where
  | command (w : Word)
  | transaction (t : Transaction)
  deriving DecidableEq, Repr

/-- The registers the index space names (R62), by their assembler names (R91). -/
inductive Reg where
  | cmd
  | status
  | din
  | dout
  | k (i : Fin 17)
  | c (i : Fin 17)
  | d (i : Fin 17)
  | tab (j : Fin 64)
  deriving DecidableEq, Repr

/-- A register operand of host assembly: a name, or `[0xNN]` (R91). -/
inductive RegOperand where
  | named (r : Reg)
  | index (idx : RegIndex)
  deriving DecidableEq, Repr

/-- One item of the host's program: a register access, as its transaction (R80), or the polling loop `WAIT` (R92),
the one piece of host control flow the spec names. -/
inductive HostOp where
  | access (t : Transaction)
  | wait
  deriving DecidableEq, Repr

/-- A line of host assembly (R91) or a pseudo-instruction (R92). SRCW and TLEN are 7 bits, so the values 0 to 127 that
R92 allows are all there are. -/
inductive AsmLine where
  | rd (r : RegOperand)
  | wr (r : RegOperand) (value : Word)
  | nop
  | perm (srcw tlen : Entry)
  | pc1
  | pc2
  | ksgen
  | ip
  | ldtab (j : Fin 64) (entries : List Word)
  | wait
  deriving DecidableEq, Repr

end Sys2Proof
end

