-- ==== Sys2Proof/WellFormed.lean ====
section
/-!
DEFINITION. Which instructions and assembly lines the spec admits.
-/

namespace Sys2Proof

/-- The command words that decode as ILLEGAL, by the three kinds R88 lists: a reserved OP; OP 0, 2, 3, 4 or 5 with
any bit 63:4 set; OP 1 with any of the bits 7:4, 15 or 63:23 set. -/
def illegalWord (w : Word) : Bool :=
  let op := (w.extractLsb' 0 4).toNat
  if 6 ≤ op then true
  else if op = 1 then
    w.extractLsb' 4 4 != 0 || w.getLsbD 15 || w.extractLsb' 23 41 != 0
  else w.extractLsb' 4 60 != 0

/-- ILLEGAL stands for the words of R88 only; every other constructor is well formed at every operand, PERM with
SRCW or TLEN outside [1, 64] included (R87). -/
def Instr.wellFormed : Instr → Bool
  | .nop => true
  | .perm _ _ => true
  | .pc1 => true
  | .pc2 => true
  | .ksgen => true
  | .ip => true
  | .illegal w => illegalWord w
  | .rd _ => true
  | .wr _ _ => true

/-- `Instr.wellFormed` as a proposition. -/
abbrev WellFormed (i : Instr) : Prop := i.wellFormed = true

/-- LDTAB names at least one entry, and its last one is at most TAB63 (R92: j + n ≤ 63). -/
def AsmLine.wellFormed : AsmLine → Bool
  | .ldtab j entries => 1 ≤ entries.length && j.val + entries.length ≤ 64
  | .rd _ | .wr _ _ | .nop | .perm _ _ | .pc1 | .pc2 | .ksgen | .ip | .wait => true

end Sys2Proof
end

