-- ==== Sys2Proof/Decode.lean ====
section
/-!
DEFINITION. Decoding of command words (R86), host transactions (R80) and register indices (R62), and after it the
encoder and the host assembler (R91, R92).
-/

namespace Sys2Proof

/-- OP = w[3:0] (R81). -/
def opField (w : Word) : BitVec 4 := w.extractLsb' 0 4

/-- SRCW = w[14:8] (R83). -/
def srcwField (w : Word) : Entry := w.extractLsb' 8 7

/-- TLEN = w[22:16] (R84). -/
def tlenField (w : Word) : Entry := w.extractLsb' 16 7

/-- The bits PERM fixes: OP and every reserved bit (R86). -/
def permMask : Word := 0xFFFFFFFFFF8080FF#64

/-- Decode of a command word (R86): total, with ILLEGAL for every word that matches no row. -/
def decodeCommand (w : Word) : Instr :=
  if w = 0x0000000000000000#64 then .nop
  else if w &&& permMask = 0x0000000000000001#64 then .perm (srcwField w) (tlenField w)
  else if w = 0x0000000000000002#64 then .pc1
  else if w = 0x0000000000000003#64 then .pc2
  else if w = 0x0000000000000004#64 then .ksgen
  else if w = 0x0000000000000005#64 then .ip
  else .illegal w

/-- Decode of a host transaction (R80): DIR is bit 72, IDX bits 71:64, DATA bits 63:0; a read ignores DATA. -/
def decodeTransaction (t : Transaction) : Instr :=
  if t.getLsbD 72 then .wr (t.extractLsb' 64 8) (t.extractLsb' 0 64)
  else .rd (t.extractLsb' 64 8)

/-- Decode of either form. -/
def decode : Encoded → Instr
  | .command w => decodeCommand w
  | .transaction t => decodeTransaction t

/-- Why a number is no encoded form. -/
inductive DecodeReject where
  /-- A command word is 64 bits (R89). -/
  | commandTooWide
  /-- A host transaction is 73 bits (R89). -/
  | transactionTooWide
  deriving DecidableEq, Repr

/-- The encoded form that `nbits` bits of value `w` are: up to 64 bits a command word, above that a host transaction,
whose 73 bits are held in whole bytes with zeros above (R80, R81, R89). -/
def encodedOfBits (nbits w : Nat) : Except DecodeReject Encoded :=
  if nbits ≤ 64 then
    if w < 2 ^ 64 then .ok (.command (BitVec.ofNat 64 w)) else .error .commandTooWide
  else
    if w < 2 ^ 73 then .ok (.transaction (BitVec.ofNat 73 w)) else .error .transactionTooWide

/-- The instruction that a word of spec/opcode_table.json decodes to. -/
def decodeTableWord (nbits w : Nat) : Option Instr :=
  match encodedOfBits nbits w with
  | .ok e => some (decode e)
  | .error _ => none

/-- The register an index names, or none for a reserved index (R62). -/
def regOfIndex (idx : RegIndex) : Option Reg :=
  let n := idx.toNat
  if n = 0x00 then some .cmd
  else if n = 0x01 then some .status
  else if n = 0x02 then some .din
  else if n = 0x03 then some .dout
  else if h : 0x20 ≤ n ∧ n ≤ 0x30 then some (.k ⟨n - 0x20, by omega⟩)
  else if h : 0x40 ≤ n ∧ n ≤ 0x50 then some (.c ⟨n - 0x40, by omega⟩)
  else if h : 0x60 ≤ n ∧ n ≤ 0x70 then some (.d ⟨n - 0x60, by omega⟩)
  else if h : 0x80 ≤ n ∧ n ≤ 0xBF then some (.tab ⟨n - 0x80, by omega⟩)
  else none

/-- The index of a register (R62). -/
def indexOfReg : Reg → RegIndex
  | .cmd => 0x00#8
  | .status => 0x01#8
  | .din => 0x02#8
  | .dout => 0x03#8
  | .k i => BitVec.ofNat 8 (0x20 + i.val)
  | .c i => BitVec.ofNat 8 (0x40 + i.val)
  | .d i => BitVec.ofNat 8 (0x60 + i.val)
  | .tab j => BitVec.ofNat 8 (0x80 + j.val)

/-- The command word of `PERM s, t` (R92). -/
def permWord (srcw tlen : Entry) : Word :=
  (tlen.setWidth 64 <<< 16) ||| (srcw.setWidth 64 <<< 8) ||| 0x1#64

/-- The encoded form of an instruction (R80, R82); a read's DATA is written as 0. -/
def encode : Instr → Encoded
  | .nop => .command 0x0#64
  | .perm srcw tlen => .command (permWord srcw tlen)
  | .pc1 => .command 0x2#64
  | .pc2 => .command 0x3#64
  | .ksgen => .command 0x4#64
  | .ip => .command 0x5#64
  | .illegal w => .command w
  | .rd idx => .transaction (0#1 ++ idx ++ 0#64)
  | .wr idx data => .transaction (1#1 ++ idx ++ data)

/-- The transaction of a host read (R80). -/
def readTransaction (idx : RegIndex) : Transaction := 0#1 ++ idx ++ 0#64

/-- The transaction of a host write (R80). -/
def writeTransaction (idx : RegIndex) (data : Word) : Transaction := 1#1 ++ idx ++ data

/-- The index a register operand denotes (R91). -/
def operandIndex : RegOperand → RegIndex
  | .named r => indexOfReg r
  | .index idx => idx

/-- The writes of LDTAB from TAB entry `j` on (R92). -/
def ldtabWrites (j : Nat) : List Word → List HostOp
  | [] => []
  | e :: es => .access (writeTransaction (BitVec.ofNat 8 (0x80 + j)) e) :: ldtabWrites (j + 1) es

/-- The host operations an assembly line stands for (R91, R92). An LDTAB line R92 does not admit is an assembly error and
stands for none (log entry 13). -/
def assemble : AsmLine → List HostOp
  | .rd r => [.access (readTransaction (operandIndex r))]
  | .wr r v => [.access (writeTransaction (operandIndex r) v)]
  | .nop => [.access (writeTransaction 0x00#8 0x0#64)]
  | .perm srcw tlen => [.access (writeTransaction 0x00#8 (permWord srcw tlen))]
  | .pc1 => [.access (writeTransaction 0x00#8 0x2#64)]
  | .pc2 => [.access (writeTransaction 0x00#8 0x3#64)]
  | .ksgen => [.access (writeTransaction 0x00#8 0x4#64)]
  | .ip => [.access (writeTransaction 0x00#8 0x5#64)]
  | .ldtab j es => if (AsmLine.ldtab j es).wellFormed then ldtabWrites j.val es else []
  | .wait => [.wait]

end Sys2Proof
end

