-- ==== Sys2Proof/Config.lean ====
section
/-!
DEFINITION. What the spec leaves open: the free values and the platform's parameter. None has a body a proof could see.
-/

namespace Sys2Proof

/-- The value of the n-th draw (R195): a host read of DOUT, K, C, D or STATUS while BUSY = 1 returns any 64-bit
value. A free value: it is applied to the counter `draws` of State, so each such read takes a fresh one
(DESIGN CHOICE for the form, log entry 2; safe). -/
opaque Config.freeWord : Nat → Word

/-- HOST_MAP (R63): the host address at which the platform places a register index. The spec leaves it open, and no
operation of DESKP reads it, since host operations take register indices (log entry 7; safe). -/
opaque Config.hostMap : RegIndex → Nat

end Sys2Proof
end

