-- ==== Sys2Proof/Machine/State.lean ====
section
/-!
DEFINITION. The state of DESKP (R20), its value after reset (R190), and the reasons a step can stop.
-/

namespace Sys2Proof.Machine

/-- STATUS by its fields (R24). The reserved bits 3, 15 and 63:28 read 0 (R33) and have no field. -/
structure Status where
  /-- Bit 0: a command is issued and not completed (R25). -/
  busy : Bool
  /-- Bit 1: DOUT holds the result of a successful PERM, PC1, PC2 or IP (R26). -/
  dv : Bool
  /-- Bit 2: the schedule file holds the result of a completed KSGEN (R27). -/
  ksv : Bool
  /-- Bits 7:4: error code of the last completed command (R28). -/
  err : BitVec 4
  /-- Bits 14:8: width of the value in DOUT (R29). -/
  outw : BitVec 7
  /-- Bits 21:16: index of the first out-of-range table entry (R30). -/
  errIdx : BitVec 6
  /-- Bits 23:22: which PERM check failed (R31). -/
  errKind : BitVec 2
  /-- Bits 27:24: OP field of the last completed command (R32). -/
  lastOp : BitVec 4
  deriving DecidableEq, Repr

/-- The schedule file: K[0] of 56 bits (R37), K[1..16] of 48 bits, `k` at i being K[i+1] (R38), and the halves C[0..16]
and D[0..16] of 28 bits (R39). -/
structure Schedule where
  k0 : PermutedKey
  k : Vector Subkey 16
  c : Vector Half 17
  d : Vector Half 17
  deriving DecidableEq, Repr

/-- Who takes a step: the engine completes a pending command (R160), the host performs its next access (R74), the
platform resets the block (R190). -/
inductive Turn where
  | engine
  | host
  | reset
  deriving DecidableEq, Repr

/-- The hardware state of R20, and after it the model's own fields. -/
structure State where
  /-- CMD (R23). -/
  cmd : Word
  /-- STATUS (R24). -/
  status : Status
  /-- DIN (R34). -/
  din : Word
  /-- DOUT (R35). -/
  dout : Word
  /-- The schedule file (R37 to R39). -/
  sched : Schedule
  /-- TAB[0..63] (R42). -/
  tab : Vector Entry 64
  /-- PEND, the hidden latch of the pending command (R44). -/
  pend : Word
  /-- The model's own: what the host has still to perform, in its program order (R74; log entry 1). -/
  host : List HostOp
  /-- The model's own: the interleaving, who moves next; past its end the engine moves whenever it has a step, and the
  host otherwise (R74, R198; log entry 1). -/
  turns : List Turn
  /-- The model's own: the response of the last host read, absent before the first (R80; log entry 3). -/
  response : Option Word
  /-- The model's own: how many free values have been drawn (R195; log entry 2). -/
  draws : Nat
  deriving DecidableEq, Repr

/-- Why the machine stops. -/
inductive Fault where
  /-- Raised by `hostWrite`: a host write of CMD, DIN or TAB, at this index, while STATUS.BUSY = 1 (R180). The spec gives
  it no further meaning, so stopping is safe. -/
  | hostWriteWhileBusy (idx : RegIndex)
  deriving DecidableEq, Repr

/-- Why an instruction has no meaning. -/
inductive Refusal where
  /-- Raised only by an arm of `exec` for an instruction that has no meaning yet; safe. No arm is left so. -/
  | notModelled (mnemonic : String)
  deriving DecidableEq, Repr

/-- What a meaning or a step answers. -/
abbrev Result := Host.Outcome State Fault Refusal

/-- STATUS after reset: every field 0 (R190). -/
def Status.reset : Status where
  busy := false
  dv := false
  ksv := false
  err := 0
  outw := 0
  errIdx := 0
  errKind := 0
  lastOp := 0

/-- The schedule file after reset: every entry 0 (R41). -/
def Schedule.reset : Schedule where
  k0 := 0
  k := Vector.replicate 16 0
  c := Vector.replicate 17 0
  d := Vector.replicate 17 0

/-- The machine right after reset (R190). The model's own fields are empty (DESIGN CHOICE, log entries 1 to 3). -/
def State.reset : State where
  cmd := 0
  status := Status.reset
  din := 0
  dout := 0
  sched := Schedule.reset
  tab := Vector.replicate 64 0
  pend := 0
  host := []
  turns := []
  response := none
  draws := 0

end Sys2Proof.Machine
end

