-- ==== Sys2Proof/Machine/Flags.lean ====
section
/-!
DEFINITION. How STATUS reads as a word and how its fields are written (R24 to R33).
-/

namespace Sys2Proof.Machine

/-- STATUS as the 64-bit word a host read returns (R24); the reserved bits are 0 (R33). -/
def statusWord (st : Status) : Word :=
  0#36 ++ st.lastOp ++ st.errKind ++ st.errIdx ++ 0#1 ++ st.outw ++ st.err ++ 0#1 ++
    BitVec.ofBool st.ksv ++ BitVec.ofBool st.dv ++ BitVec.ofBool st.busy

/-- A successful completion: ERR, ERRIDX and ERRKIND are 0 (R28, R30, R31). -/
def statusSuccess (st : Status) : Status :=
  { st with err := 0, errIdx := 0, errKind := 0 }

/-- `raise Error(code, idx, kind)` as STATUS records it (R173). -/
def statusError (code : BitVec 4) (idx : BitVec 6) (kind : BitVec 2) (st : Status) : Status :=
  { st with err := code, errIdx := idx, errKind := kind }

/-- DOUT holds a result of this width (R26, R29). -/
def statusResult (width : BitVec 7) (st : Status) : Status :=
  { st with outw := width, dv := true }

/-- DOUT holds no result: a failed PERM clears OUTW and DV (R108). -/
def statusNoResult (st : Status) : Status :=
  { st with outw := 0, dv := false }

/-- The schedule file is valid (R27). -/
def statusScheduled (st : Status) : Status :=
  { st with ksv := true }

/-- The common completion writes: LASTOP and BUSY (R160). -/
def statusCompleted (op : BitVec 4) (st : Status) : Status :=
  { st with lastOp := op, busy := false }

/-- The issue of a command sets BUSY (R161). -/
def statusIssued (st : Status) : Status :=
  { st with busy := true }

end Sys2Proof.Machine
end

