-- ==== Sys2Proof/Machine/Tables.lean ====
section
/-!
DEFINITION. The ROM tables PC1, PC2, IP and SHIFT (R43): constants that no access reads or writes.
-/

namespace Sys2Proof.Machine

/-- PC1: 56 DES bit positions of the 64-bit key (R120). -/
def pc1Table : List Nat :=
  [57, 49, 41, 33, 25, 17,  9] ++
  [ 1, 58, 50, 42, 34, 26, 18] ++
  [10,  2, 59, 51, 43, 35, 27] ++
  [19, 11,  3, 60, 52, 44, 36] ++
  [63, 55, 47, 39, 31, 23, 15] ++
  [ 7, 62, 54, 46, 38, 30, 22] ++
  [14,  6, 61, 53, 45, 37, 29] ++
  [21, 13,  5, 28, 20, 12,  4]

/-- PC2: 48 DES bit positions of the 56-bit `C ++ D` (R122). -/
def pc2Table : List Nat :=
  [14, 17, 11, 24,  1,  5] ++
  [ 3, 28, 15,  6, 21, 10] ++
  [23, 19, 12,  4, 26,  8] ++
  [16,  7, 27, 20, 13,  2] ++
  [41, 52, 31, 37, 47, 55] ++
  [30, 40, 51, 45, 33, 48] ++
  [44, 49, 39, 56, 34, 53] ++
  [46, 42, 50, 36, 29, 32]

/-- IP: 64 DES bit positions of the 64-bit block (R150). -/
def ipTable : List Nat :=
  [58, 50, 42, 34, 26, 18, 10, 2] ++
  [60, 52, 44, 36, 28, 20, 12, 4] ++
  [62, 54, 46, 38, 30, 22, 14, 6] ++
  [64, 56, 48, 40, 32, 24, 16, 8] ++
  [57, 49, 41, 33, 25, 17,  9, 1] ++
  [59, 51, 43, 35, 27, 19, 11, 3] ++
  [61, 53, 45, 37, 29, 21, 13, 5] ++
  [63, 55, 47, 39, 31, 23, 15, 7]

/-- SHIFT: the left rotation of a round, 1 for the rounds 1, 2, 9 and 16, otherwise 2 (R125). -/
def shiftAmount (round : Nat) : Nat :=
  if round = 1 ∨ round = 2 ∨ round = 9 ∨ round = 16 then 1 else 2

end Sys2Proof.Machine
end

