-- ==== Sys2Proof/Machine/Operands.lean ====
section
/-!
DEFINITION. The operand forms of the commands: the source DIN at a width, the table slice, and PERM's operand checks.
-/

namespace Sys2Proof.Machine

/-- DIN[w-1:0], the source masked to its width (R102). -/
def sourceOperand (w : Nat) (s : State) : BitVec w := s.din.setWidth w

/-- TAB[0..TLEN-1] as DES bit positions (R107). -/
def tableOperand (tlen : Entry) (s : State) : List Nat :=
  (s.tab.toList.take tlen.toNat).map BitVec.toNat

/-- The entries a table may hold for a source width: 1 to the width (R101). -/
def entryInRange (srcw p : Nat) : Bool := 1 ≤ p && p ≤ srcw

/-- The first out-of-range entry, in ascending index order (R107). -/
def firstBadEntry (srcw : Nat) (table : List Nat) : Option Nat :=
  table.findIdx? (fun p => !entryInRange srcw p)

/-- PERM's SRCW and TLEN are legal from 1 to 64 (R101). -/
def widthInRange (w : Entry) : Bool := 1 ≤ w.toNat && w.toNat ≤ 64

/-- PERM's checks in the order of R179: TLEN, SRCW, then the lowest bad entry. The answer is the ERRIDX and the ERRKIND
of the first that fails. -/
def permCheck (srcw tlen : Entry) (s : State) : Option (BitVec 6 × BitVec 2) :=
  if !widthInRange tlen then some (0, 1)
  else if !widthInRange srcw then some (0, 2)
  else (firstBadEntry srcw.toNat (tableOperand tlen s)).map fun i => (BitVec.ofNat 6 i, 0)

end Sys2Proof.Machine
end

