-- ==== Sys2Proof/Machine/Ops.lean ====
section
/-!
DEFINITION. The named operations over the registers: the permutation primitive, rotation, the writes of a completion,
recording an error (R173: DESKP has no trap, R178, so this is all that taking an exception is), issue, host read and
write, and reset.
-/

namespace Sys2Proof.Machine

/-- `desbit_w(v, p) = v[w-p]`: DES bit position `p` of a `w`-bit value, 1 being the most significant (R9). -/
def desBit {w : Nat} (v : BitVec w) (p : Nat) : Bool := v.getLsbD (w - p)

/-- The permutation primitive (R100): output bit `i`, counted from the most significant, is source bit `T[i]`. The
result's width is the table's length (R103). -/
def permute {w : Nat} : (T : List Nat) → BitVec w → BitVec T.length
  | [], _ => 0#0
  | p :: T, v => BitVec.cons (desBit v p) (permute T v)

/-- Left rotation within 28 bits (R127). -/
def rotl28 (x : Half) (r : Nat) : Half := (x <<< r) ||| (x >>> (28 - r))

/-- Right rotation within 28 bits (R128); no command performs it. -/
def rotr28 (x : Half) (r : Nat) : Half := rotl28 x ((28 - r) % 28)

/-- A BitBlock in a 64-bit register, zeros above its width (R12). -/
def zext64 {w : Nat} (v : BitVec w) : Word := v.setWidth 64

/-- An 8-byte key or block as the host places it in DIN, byte 0 in bits 63:56 (R71, a host convention). -/
def packBytes (b : Vector (BitVec 8) 8) : Word :=
  b[0] ++ b[1] ++ b[2] ++ b[3] ++ b[4] ++ b[5] ++ b[6] ++ b[7]

/-- A successful PERM, PC1, PC2 or IP: DOUT, OUTW, DV and no error (R107, R134, R135, R153). -/
def writeResult (width : BitVec 7) (r : Word) (s : State) : State :=
  { s with dout := r, status := statusSuccess (statusResult width s.status) }

/-- A successful KSGEN: the whole schedule file in one step, KSV and no error (R133). -/
def writeSchedule (sch : Schedule) (s : State) : State :=
  { s with sched := sch, status := statusSuccess (statusScheduled s.status) }

/-- A successful command with no result: no error (R162). -/
def writeSuccess (s : State) : State :=
  { s with status := statusSuccess s.status }

/-- `raise Error(code, idx, kind)` (R173): the error is recorded in STATUS, not thrown. -/
def raiseError (code : BitVec 4) (idx : BitVec 6) (kind : BitVec 2) (s : State) : State :=
  { s with status := statusError code idx kind s.status }

/-- What a failed PERM writes beside the error: DOUT, OUTW and DV are cleared (R108). -/
def clearResult (s : State) : State :=
  { s with dout := 0, status := statusNoResult s.status }

/-- The common completion writes: LASTOP <- PEND[3:0], BUSY <- 0 (R160). -/
def complete (s : State) : State :=
  { s with status := statusCompleted (opField s.pend) s.status }

/-- Issue of a command: CMD, PEND and BUSY in one step (R161). The value is neither decoded nor checked. -/
def issue (v : Word) (s : State) : State :=
  { s with cmd := v, pend := v, status := statusIssued s.status }

/-- A host write of DIN (R65). -/
def writeDin (v : Word) (s : State) : State := { s with din := v }

/-- A host write of TAB[j]: bits 6:0 are stored, the rest dropped (R42). -/
def writeTab (j : Fin 64) (v : Word) (s : State) : State :=
  { s with tab := s.tab.set j.val (v.setWidth 7) }

/-- K[i] zero-extended: K[0] of 56 bits, K[1..16] of 48 (R37, R38). -/
def subkeyWord (sch : Schedule) (i : Fin 17) : Word :=
  if h : i.val = 0 then zext64 sch.k0
  else zext64 (sch.k[i.val - 1]'(by omega))

/-- The stored value of a register, zero-extended to 64 bits (R64). -/
def registerValue (r : Reg) (s : State) : Word :=
  match r with
  | .cmd => s.cmd
  | .status => statusWord s.status
  | .din => s.din
  | .dout => s.dout
  | .k i => subkeyWord s.sched i
  | .c i => zext64 s.sched.c[i]
  | .d i => zext64 s.sched.d[i]
  | .tab j => zext64 s.tab[j]

/-- What a host read of a register returns while BUSY = 1 (R195): `none` for the stored value, else the draw, made
from the free value. -/
def busyRead (r : Reg) (free : Word) : Option Word :=
  match r with
  | .dout | .k _ | .c _ | .d _ => some free
  | .status => some (free ||| 1#64)
  | .cmd | .din | .tab _ => none

/-- The host receives the response of a read (R80). -/
def respond (v : Word) (s : State) : State := { s with response := some v }

/-- A free value is used up, so that the next draw is a fresh one (R195). -/
def countDraw (s : State) : State := { s with draws := s.draws + 1 }

/-- HostRead (R64): a reserved index reads 0 (R66); while BUSY = 1 some registers read as a draw (R195). -/
def hostRead (idx : RegIndex) (s : State) : State :=
  match regOfIndex idx with
  | none => respond 0 s
  | some r =>
    if s.status.busy then
      match busyRead r (Config.freeWord s.draws) with
      | some v => respond v (countDraw s)
      | none => respond (registerValue r s) s
    else respond (registerValue r s) s

/-- The registers a host must not write while BUSY = 1: CMD, DIN and TAB (R180). -/
def writeGuarded : Reg → Bool
  | .cmd | .din | .tab _ => true
  | .status | .dout | .k _ | .c _ | .d _ => false

/-- What a host write of a register stores (R65); a read-only register ignores it (R67). -/
def storeRegister (r : Reg) (v : Word) (s : State) : State :=
  match r with
  | .cmd => issue v s
  | .din => writeDin v s
  | .tab j => writeTab j v s
  | .status | .dout | .k _ | .c _ | .d _ => s

/-- HostWrite (R65): a write of CMD, DIN or TAB while BUSY = 1 is the model's fault (R180); a reserved index ignores the
write (R66). -/
def hostWrite (idx : RegIndex) (v : Word) (s : State) : Result :=
  match regOfIndex idx with
  | none => .next s
  | some r =>
    if s.status.busy && writeGuarded r then .fault (.hostWriteWhileBusy idx)
    else .next (storeRegister r v s)

/-- Reset (R190): every register to its reset value, a pending command abandoned (R191). The model's own fields are
kept: the host goes on with what it has still to perform (log entry 4). -/
def applyReset (s : State) : State :=
  { State.reset with host := s.host, turns := s.turns, response := s.response, draws := s.draws }

/-- The next turn is used up. -/
def popTurn (s : State) : State := { s with turns := s.turns.tail }

/-- The host's next operation is used up. -/
def popHost (s : State) : State := { s with host := s.host.tail }

/-- A command put where the engine takes its next one, and the engine's turn: as if the host had issued it (R161). -/
def placeCommand (w : Word) (s : State) : State :=
  { issue w s with turns := .engine :: s.turns }

/-- A transaction put where the host takes its next one, and the host's turn. -/
def placeTransaction (t : Transaction) (s : State) : State :=
  { s with host := .access t :: s.host, turns := .host :: s.turns }

end Sys2Proof.Machine
end

