-- ==== Sys2Proof/Machine/Control.lean ====
section
/-!
DEFINITION. The commands that compute nothing: NOP and ILLEGAL (43_control.md).
-/

namespace Sys2Proof.Machine

/-- NOP (R162), then the completion (R160). -/
def execNop (s : State) : Result :=
  .next (complete (writeSuccess s))

/-- ILLEGAL (R163): error IllegalCommand (R176), then the completion (R160). The word is the one in PEND, whose OP the
completion records. -/
def execIllegal (_w : Word) (s : State) : Result :=
  .next (complete (raiseError 4 0 0 s))

end Sys2Proof.Machine
end

