-- ==== Sys2Proof/Machine/HostAccess.lean ====
section
/-!
DEFINITION. The host transactions RD and WR (20_memory.md).
-/

namespace Sys2Proof.Machine

/-- RD (R64): never faults. -/
def execRd (idx : RegIndex) (s : State) : Result :=
  .next (hostRead idx s)

/-- WR (R65). -/
def execWr (idx : RegIndex) (v : Word) (s : State) : Result :=
  hostWrite idx v s

end Sys2Proof.Machine
end

