-- ==== Sys2Proof/Machine/InitialPermutation.lean ====
section
/-!
DEFINITION. The initial-permutation engine: IP (42_initial_permutation.md).
-/

namespace Sys2Proof.Machine

theorem ipTable_length : ipTable.length = 64 := rfl

/-- The initial permutation of a 64-bit block (R152). -/
def initialPermute (block : Word) : Word := (permute ipTable block).cast ipTable_length

/-- IP (R153), then the completion (R160). -/
def execIp (s : State) : Result :=
  .next (complete (writeResult 64 (initialPermute (sourceOperand 64 s)) s))

end Sys2Proof.Machine
end

