-- ==== Sys2Proof/Machine/KeySchedule.lean ====
section
/-!
DEFINITION. The key-schedule generator: KSGEN, and PC1 and PC2 alone (41_key_schedule.md).
-/

namespace Sys2Proof.Machine

theorem pc1Table_length : pc1Table.length = 56 := rfl

theorem pc2Table_length : pc2Table.length = 48 := rfl

/-- PC1 of a 64-bit key: 56 bits (R120). -/
def permutedChoice1 (key : Word) : PermutedKey := (permute pc1Table key).cast pc1Table_length

/-- PC2 of a 56-bit value: 48 bits (R122). -/
def permutedChoice2 (cd : PermutedKey) : Subkey := (permute pc2Table cd).cast pc2Table_length

/-- C[0] = K[0][55:28] (R129). -/
def highHalf (k0 : PermutedKey) : Half := k0.extractLsb' 28 28

/-- D[0] = K[0][27:0] (R129). -/
def lowHalf (k0 : PermutedKey) : Half := k0.extractLsb' 0 28

/-- `C[i] ++ D[i]` (R130). -/
def recombine (c d : Half) : PermutedKey := c ++ d

/-- A half after round `i`: rotated by SHIFT of each round so far (R131, step 3a). -/
def halfAfter (h : Half) : Nat → Half
  | 0 => h
  | i + 1 => rotl28 (halfAfter h i) (shiftAmount (i + 1))

/-- The subkey of round `i` (R131, steps 3b and 3c). -/
def subkeyAfter (c0 d0 : Half) (i : Nat) : Subkey :=
  permutedChoice2 (recombine (halfAfter c0 i) (halfAfter d0 i))

/-- The complete key schedule of a key (R131). -/
def generateSchedule (key : Word) : Schedule :=
  let k0 := permutedChoice1 key
  let c0 := highHalf k0
  let d0 := lowHalf k0
  { k0 := k0
    k := Vector.ofFn fun i : Fin 16 => subkeyAfter c0 d0 (i.val + 1)
    c := Vector.ofFn fun i : Fin 17 => halfAfter c0 i.val
    d := Vector.ofFn fun i : Fin 17 => halfAfter d0 i.val }

/-- KSGEN (R133), then the completion (R160). -/
def execKsgen (s : State) : Result :=
  .next (complete (writeSchedule (generateSchedule (sourceOperand 64 s)) s))

/-- PC1 (R134), then the completion (R160). -/
def execPc1 (s : State) : Result :=
  .next (complete (writeResult 56 (zext64 (permutedChoice1 (sourceOperand 64 s))) s))

/-- PC2 (R135), of DIN[55:0], then the completion (R160). -/
def execPc2 (s : State) : Result :=
  .next (complete (writeResult 48 (zext64 (permutedChoice2 (sourceOperand 56 s))) s))

end Sys2Proof.Machine
end

