-- ==== Sys2Proof/Machine/Permutation.lean ====
section
/-!
DEFINITION. The generic permutation unit: PERM (40_permutation_engine.md).
-/

namespace Sys2Proof.Machine

/-- A failed PERM (R108): DOUT, OUTW and DV cleared, ERR = 1 with its ERRIDX and ERRKIND, and nothing else. -/
def failPerm (idx : BitVec 6) (kind : BitVec 2) (s : State) : State :=
  raiseError 1 idx kind (clearResult s)

/-- PERM (R107): the checks, then the permutation of DIN[SRCW-1:0] by TAB[0..TLEN-1]; then the completion (R160). -/
def execPerm (srcw tlen : Entry) (s : State) : Result :=
  match permCheck srcw tlen s with
  | some (idx, kind) => .next (complete (failPerm idx kind s))
  | none =>
    .next (complete (writeResult tlen
      (zext64 (permute (tableOperand tlen s) (sourceOperand srcw.toNat s))) s))

end Sys2Proof.Machine
end

