-- ==== Sys2Proof/Machine/Dispatch.lean ====
section
/-!
DEFINITION. The dispatch: one arm per instruction. The commands are run by the engine's step (R160), RD and WR by the
host's.
-/

namespace Sys2Proof.Machine

def exec (i : Instr) (s : State) : Host.Outcome State Fault Refusal :=
  match i with
  | .nop => Sys2Proof.Machine.execNop s
  | .perm srcw tlen => Sys2Proof.Machine.execPerm srcw tlen s
  | .pc1 => Sys2Proof.Machine.execPc1 s
  | .pc2 => Sys2Proof.Machine.execPc2 s
  | .ksgen => Sys2Proof.Machine.execKsgen s
  | .ip => Sys2Proof.Machine.execIp s
  | .illegal w => Sys2Proof.Machine.execIllegal w s
  | .rd idx => Sys2Proof.Machine.execRd idx s
  | .wr idx data => Sys2Proof.Machine.execWr idx data s

end Sys2Proof.Machine
end

