-- ==== Sys2Proof/Machine/Agents.lean ====
section
/-!
DEFINITION. The agents (R7): who moves next, and what each does with its turn.
-/

namespace Sys2Proof.Machine

/-- Who moves next: the head of `turns`; past its end the engine while a command is pending (weak fairness, R198), and
otherwise the host. -/
def mover (s : State) : Turn :=
  match s.turns with
  | t :: _ => t
  | [] => if s.status.busy then .engine else .host

/-- The engine's step (R160): it completes the pending command, and has no step while BUSY = 0. -/
def engineTurn (s : State) : Result :=
  if s.status.busy then exec (decodeCommand s.pend) s else .next s

/-- A poll of STATUS says BUSY = 0: bit 0 of the response (R92). -/
def responseIdle (s : State) : Bool :=
  match s.response with
  | some v => !v.getLsbD 0
  | none => false

/-- `WAIT` (R92): read STATUS, and go on polling until bit 0 of the response is 0. -/
def pollTurn (s : State) : Result :=
  match exec (.rd 0x01#8) s with
  | .next s' => .next (if responseIdle s' then popHost s' else s')
  | .fault f => .fault f
  | .refused r => .refused r

/-- The host's turn (R74): its next access, in program order. A host with nothing left to do changes nothing. -/
def hostTurn (s : State) : Result :=
  match s.host with
  | [] => .next s
  | .access t :: _ => exec (decodeTransaction t) (popHost s)
  | .wait :: _ => pollTurn s

/-- One step: whoever moves next uses its turn. -/
def takeTurn (s : State) : Result :=
  match mover s with
  | .engine => engineTurn (popTurn s)
  | .host => hostTurn (popTurn s)
  | .reset => .next (applyReset (popTurn s))

/-- The next instruction placed where the machine takes it (log entry 6). -/
def placeWord (nbits w : Nat) (s : State) : State :=
  match encodedOfBits nbits w with
  | .ok (.command c) => placeCommand c s
  | .ok (.transaction t) => placeTransaction t s
  | .error _ => s

end Sys2Proof.Machine
end

