-- ==== Sys2Proof/Safety.lean ====
section
/-!
DEFINITION. What counts as a safe run and as its end, the invariants every step keeps, and the frames the statements
use.
-/

namespace Sys2Proof.Machine

/-! ### Runs -/

/-- The end of a run (R199): the host has performed its last access and no command is pending. -/
abbrev RunEnded (s : State) : Prop := s.host = [] ∧ s.status.busy = false

/-- The host's next operation is a write of CMD, DIN or TAB at this index (R180). -/
def nextWriteGuarded (s : State) (idx : RegIndex) : Prop :=
  ∃ t rest v r, s.host = .access t :: rest ∧ decodeTransaction t = .wr idx v ∧
    regOfIndex idx = some r ∧ writeGuarded r = true

/-- A step is safe when it does not end in a fault (R180). -/
def SafeStep (s : State) : Prop := ∃ t, step s = .next t

/-! ### Invariants -/

/-- Every bit of DOUT at position STATUS.OUTW or above is 0 (R36). -/
def DoutWithinWidth (s : State) : Prop :=
  ∀ i, s.status.outw.toNat ≤ i → s.dout.getLsbD i = false

/-- DV is set exactly when DOUT has a width, and a width is at most 64 (R26, R29). -/
abbrev ResultFlags (s : State) : Prop :=
  (s.status.dv = true ↔ s.status.outw ≠ 0) ∧ s.status.outw.toNat ≤ 64

/-- ERR is 0, 1 or 4 (R171); ERRKIND is 0 unless ERR = 1, and never 3 (R31); ERRIDX is 0 unless ERR = 1 and ERRKIND = 0
(R30). -/
abbrev ErrorFields (s : State) : Prop :=
  (s.status.err = 0 ∨ s.status.err = 1 ∨ s.status.err = 4) ∧
  (s.status.err ≠ 1 → s.status.errKind = 0) ∧ s.status.errKind ≠ 3 ∧
  (s.status.errIdx ≠ 0 → s.status.err = 1 ∧ s.status.errKind = 0)

/-- The schedule file is the schedule of some key (R40, R131), and that of reset while KSV = 0 (R27). -/
def ScheduleWhole (s : State) : Prop :=
  (∃ key, s.sched = generateSchedule key) ∧ (s.status.ksv = false → s.sched = Schedule.reset)

/-- CMD holds the word in PEND: issue writes both, and nothing else writes either (R23, R44, R161). -/
def CmdIsPend (s : State) : Prop := s.cmd = s.pend

/-- The invariant of the machine. -/
structure Inv (s : State) : Prop where
  dout_within_width : DoutWithinWidth s
  result_flags : ResultFlags s
  error_fields : ErrorFields s
  schedule_whole : ScheduleWhole s
  cmd_is_pend : CmdIsPend s

/-! ### Frames -/

/-- The model's own fields are unchanged. -/
abbrev HostSideKept (s t : State) : Prop :=
  t.host = s.host ∧ t.turns = s.turns ∧ t.response = s.response ∧ t.draws = s.draws

/-- What the host writes is unchanged: CMD, DIN, TAB, and PEND. -/
abbrev HostRegistersKept (s t : State) : Prop :=
  t.cmd = s.cmd ∧ t.din = s.din ∧ t.tab = s.tab ∧ t.pend = s.pend

/-- The schedule file and KSV are unchanged. -/
abbrev ScheduleKept (s t : State) : Prop := t.sched = s.sched ∧ t.status.ksv = s.status.ksv

/-- DOUT, DV and OUTW are unchanged. -/
abbrev ResultKept (s t : State) : Prop :=
  t.dout = s.dout ∧ t.status.dv = s.status.dv ∧ t.status.outw = s.status.outw

/-- ERR, ERRIDX and ERRKIND are 0. -/
abbrev NoError (t : State) : Prop :=
  t.status.err = 0 ∧ t.status.errIdx = 0 ∧ t.status.errKind = 0

/-- A completion's common writes, and the frame of every command (R160): BUSY is 0, LASTOP is PEND[3:0], and
the registers the host writes and the model's own fields are unchanged. -/
abbrev Completed (s t : State) : Prop :=
  t.status.busy = false ∧ t.status.lastOp = s.pend.extractLsb' 0 4 ∧
  HostRegistersKept s t ∧ HostSideKept s t

/-- Every register but the model's own fields is unchanged. -/
abbrev RegistersKept (s t : State) : Prop :=
  t.cmd = s.cmd ∧ t.status = s.status ∧ t.din = s.din ∧ t.dout = s.dout ∧ t.sched = s.sched ∧
  t.tab = s.tab ∧ t.pend = s.pend

/-- A failed PERM (R108): DOUT, OUTW and DV cleared, ERR = 1 with its ERRIDX and ERRKIND, nothing else but the common
writes. -/
abbrev PermFailed (idx : BitVec 6) (kind : BitVec 2) (s t : State) : Prop :=
  t.dout = 0 ∧ t.status.outw = 0 ∧ t.status.dv = false ∧
  t.status.err = 1 ∧ t.status.errIdx = idx ∧ t.status.errKind = kind ∧ ScheduleKept s t ∧ Completed s t

/-- The flags of a result of this width (R26, R29), with no error and the rest of the frame of PERM, PC1, PC2 and IP. -/
abbrev ResultWritten (width : BitVec 7) (s t : State) : Prop :=
  t.status.outw = width ∧ t.status.dv = true ∧ NoError t ∧ ScheduleKept s t ∧ Completed s t

/-! ### The register index space by number (R62, R65) -/

/-- The reserved indices (R62). -/
abbrev ReservedIndex (idx : RegIndex) : Prop :=
  (0x04 ≤ idx.toNat ∧ idx.toNat ≤ 0x1F) ∨ (0x31 ≤ idx.toNat ∧ idx.toNat ≤ 0x3F) ∨
  (0x51 ≤ idx.toNat ∧ idx.toNat ≤ 0x5F) ∨ (0x71 ≤ idx.toNat ∧ idx.toNat ≤ 0x7F) ∨ 0xC0 ≤ idx.toNat

/-- The indices of the read-only registers (R62): STATUS, DOUT, K, C and D. -/
abbrev ReadOnlyIndex (idx : RegIndex) : Prop :=
  idx.toNat = 0x01 ∨ idx.toNat = 0x03 ∨ (0x20 ≤ idx.toNat ∧ idx.toNat ≤ 0x30) ∨
  (0x40 ≤ idx.toNat ∧ idx.toNat ≤ 0x50) ∨ (0x60 ≤ idx.toNat ∧ idx.toNat ≤ 0x70)

/-- The indices a host must not write while BUSY = 1 (R65): CMD, DIN and TAB. -/
abbrev GuardedIndex (idx : RegIndex) : Prop :=
  idx.toNat = 0x00 ∨ idx.toNat = 0x02 ∨ (0x80 ≤ idx.toNat ∧ idx.toNat ≤ 0xBF)

/-- The response a host read of an index gives (R64), `none` where the read does not answer. -/
def responseOf (idx : RegIndex) (s : State) : Option Word :=
  match exec (.rd idx) s with
  | .next t => t.response
  | .fault _ => none
  | .refused _ => none

/-! ### Keys -/

/-- The two keys agree but for the bits PC1 never selects: DES bits 8, 16, ..., 64, the DIN bits 56, 48, ..., 0
(R121). -/
abbrev AgreeOffParity (a b : Word) : Prop :=
  ∀ i, i < 64 → i % 8 ≠ 0 → a.getLsbD i = b.getLsbD i

end Sys2Proof.Machine
end

