-- ==== Sys2Proof/Certificates/Slice0/Obligations.lean ====
section
/-!
DEFINITION. The statements for the provers, each citing the rules of spec/ it formalises.
-/

open Sys2Proof Sys2Proof.Machine

/-! ### The step and its agents -/

/-- R160, R86: with a command pending and the engine to move, the step is `exec` of the instruction PEND decodes to, on the
state whose turn is used up. With no turn listed the engine moves (R198; log entry 1). -/
def Obligations.StepRunsPendingCommand : Prop :=
  ∀ s : State, s.status.busy = true →
    (∀ rest, s.turns = .engine :: rest → step s = exec (decodeCommand s.pend) { s with turns := rest }) ∧
    (s.turns = [] → step s = exec (decodeCommand s.pend) s)

/-- R74, R80: with the host to move, the step is `exec` of the instruction its next transaction decodes to, on the state
whose turn and transaction are used up. -/
def Obligations.StepRunsHostAccess : Prop :=
  ∀ (s : State) (t : Transaction) (ops : List HostOp), s.host = .access t :: ops →
    (∀ rest, s.turns = .host :: rest →
      step s = exec (decodeTransaction t) { s with host := ops, turns := rest }) ∧
    (s.turns = [] → s.status.busy = false → step s = exec (decodeTransaction t) { s with host := ops })

/-- R92, R195: `WAIT` reads STATUS. While BUSY = 1 the response is a draw with bit 0 = 1 and the host goes on polling;
with BUSY = 0 the response is STATUS and the loop ends. (The draw's form is the model's, log entry 2; that it covers the
reserved bits 3, 15 and 63:28 too, where R33 says they always read 0, follows R64 and R195, log entry 8.) -/
def Obligations.WaitPollsStatus : Prop :=
  ∀ (s : State) (ops : List HostOp) (rest : List Turn), s.host = .wait :: ops → s.turns = .host :: rest →
    (s.status.busy = true → step s = .next { s with
      turns := rest, response := some (Config.freeWord s.draws ||| 1#64), draws := s.draws + 1 }) ∧
    (s.status.busy = false → step s = .next { s with
      host := ops, turns := rest, response := some (statusWord s.status) })

/-- R160: the engine takes no step while BUSY = 0. R199: a run that has ended, with no turn left, changes no more (the
model's choice for a machine with nothing to do, log entry 5). -/
def Obligations.NothingMovesWithoutWork : Prop :=
  (∀ (s : State) (rest : List Turn), s.status.busy = false → s.turns = .engine :: rest →
    step s = .next { s with turns := rest }) ∧
  (∀ (s : State) (rest : List Turn), s.host = [] → s.turns = .host :: rest →
    step s = .next { s with turns := rest }) ∧
  (∀ s : State, RunEnded s → s.turns = [] → step s = .next s)

/-- R190, R191, R41: a reset, which may arrive in any state, sets every register to 0 and clears BUSY, so that a pending
command is abandoned and the engine has no step. -/
def Obligations.ResetZeroesEveryRegister : Prop :=
  ∀ s : State, mover s = .reset →
    ∃ t, step s = .next t ∧
      t.cmd = 0 ∧ statusWord t.status = 0 ∧ t.status.busy = false ∧ t.din = 0 ∧ t.dout = 0 ∧
      t.sched.k0 = 0 ∧ (∀ i : Fin 16, t.sched.k[i] = 0) ∧ (∀ i : Fin 17, t.sched.c[i] = 0) ∧
      (∀ i : Fin 17, t.sched.d[i] = 0) ∧ (∀ j : Fin 64, t.tab[j] = 0) ∧ t.pend = 0

/-- R190: right after reset every register index reads 0. -/
def Obligations.ResetReadsZeroEverywhere : Prop :=
  ∀ idx : RegIndex, responseOf idx State.reset = some 0

/-- R160, R32: when the engine moves with a command pending, it completes it in that one step: BUSY is 0 and LASTOP is
PEND[3:0], whatever the word. -/
def Obligations.EngineCompletesInOneStep : Prop :=
  ∀ s : State, s.status.busy = true → mover s = .engine →
    ∃ t, step s = .next t ∧ t.status.busy = false ∧ t.status.lastOp = s.pend.extractLsb' 0 4 ∧
      HostRegistersKept s t

/-! ### Encoding -/

/-- Words written out bit by bit from R81, R82, R80 and the examples of R88, R92 and R163. -/
def Obligations.WordsDecodeAsTheTableSays : Prop :=
  decodeCommand 0x0000000000000000#64 = .nop ∧
  decodeCommand 0x0000000000080801#64 = .perm 8 8 ∧
  decodeCommand 0x0000000000404001#64 = .perm 64 64 ∧
  decodeCommand 0x00000000007F7F01#64 = .perm 127 127 ∧
  decodeCommand 0x0000000000000002#64 = .pc1 ∧
  decodeCommand 0x0000000000000003#64 = .pc2 ∧
  decodeCommand 0x0000000000000004#64 = .ksgen ∧
  decodeCommand 0x0000000000000005#64 = .ip ∧
  decodeCommand 0x0000000000000006#64 = .illegal 0x0000000000000006#64 ∧
  decodeCommand 0x0000000000000104#64 = .illegal 0x0000000000000104#64 ∧
  decodeCommand 0x8000000000000001#64 = .illegal 0x8000000000000001#64 ∧
  decodeTransaction 0x0030000000000000000#73 = .rd 0x03#8 ∧
  decodeTransaction 0x1020123456789ABCDEF#73 = .wr 0x02#8 0x0123456789ABCDEF#64

/-- R80, R82: encoding a well-formed instruction and decoding it gives it back, with every operand at every value. -/
def Obligations.EncodedInstructionsDecodeBack : Prop :=
  ∀ i : Instr, WellFormed i → decode (encode i) = i

/-- R80, R86: every command word and every write transaction is the encoding of what it decodes to, so no bit of one is
dropped; a read transaction is so but for its DATA, which is ignored. -/
def Obligations.DecodedWordsEncodeBack : Prop :=
  (∀ w : Word, WellFormed (decodeCommand w) ∧ encode (decodeCommand w) = .command w) ∧
  (∀ t : Transaction, t.getLsbD 72 = true → encode (decodeTransaction t) = .transaction t) ∧
  (∀ t : Transaction, t.getLsbD 72 = false →
    decodeTransaction t = .rd (t.extractLsb' 64 8) ∧
    encode (decodeTransaction t) = .transaction (0#1 ++ t.extractLsb' 64 8 ++ 0#64))

/-- R86: each outcome of the decoder exactly when its pattern holds; a word has one outcome, whatever the order. -/
def Obligations.DecodeFollowsThePatterns : Prop :=
  ∀ w : Word,
    (decodeCommand w = .nop ↔ w = 0x0000000000000000#64) ∧
    (∀ srcw tlen, decodeCommand w = .perm srcw tlen ↔
      w &&& 0xFFFFFFFFFF8080FF#64 = 0x0000000000000001#64 ∧
        srcw = w.extractLsb' 8 7 ∧ tlen = w.extractLsb' 16 7) ∧
    (decodeCommand w = .pc1 ↔ w = 0x0000000000000002#64) ∧
    (decodeCommand w = .pc2 ↔ w = 0x0000000000000003#64) ∧
    (decodeCommand w = .ksgen ↔ w = 0x0000000000000004#64) ∧
    (decodeCommand w = .ip ↔ w = 0x0000000000000005#64) ∧
    (∀ w', decodeCommand w = .illegal w' ↔ w' = w ∧
      w ≠ 0x0000000000000000#64 ∧ w &&& 0xFFFFFFFFFF8080FF#64 ≠ 0x0000000000000001#64 ∧
      w ≠ 0x0000000000000002#64 ∧ w ≠ 0x0000000000000003#64 ∧ w ≠ 0x0000000000000004#64 ∧
      w ≠ 0x0000000000000005#64) ∧
    (decodeCommand w).isCommand = true

/-- R88: the three kinds of word that decode as ILLEGAL, that they complete with IllegalCommand, and that no other word
than 0 is a no-operation. -/
def Obligations.IllegalWordsAreTheThreeKinds : Prop :=
  (∀ w : Word, decodeCommand w = .illegal w ↔
    6 ≤ (w.extractLsb' 0 4).toNat ∨
    (((w.extractLsb' 0 4).toNat = 0 ∨ (w.extractLsb' 0 4).toNat = 2 ∨ (w.extractLsb' 0 4).toNat = 3 ∨
      (w.extractLsb' 0 4).toNat = 4 ∨ (w.extractLsb' 0 4).toNat = 5) ∧ w.extractLsb' 4 60 ≠ 0) ∨
    ((w.extractLsb' 0 4).toNat = 1 ∧
      (w.extractLsb' 4 4 ≠ 0 ∨ w.getLsbD 15 = true ∨ w.extractLsb' 23 41 ≠ 0))) ∧
  (∀ (w : Word) (s : State), decodeCommand w = .illegal w → s.status.busy = true →
    ∃ t, exec (decodeCommand w) s = .next t ∧ t.status.err = 4) ∧
  (∀ w : Word, decodeCommand w = .nop → w = 0)

/-- R87: a PERM word with SRCW or TLEN out of range decodes as PERM, and fails in its execution with
InvalidPermutationTable; only a word of no pattern is rejected by decode. -/
def Obligations.OutOfRangePermDecodesAsPerm : Prop :=
  (∀ srcw tlen : Entry, decodeCommand (permWord srcw tlen) = .perm srcw tlen) ∧
  (∀ (srcw tlen : Entry) (s : State), s.status.busy = true →
    (srcw.toNat < 1 ∨ 64 < srcw.toNat ∨ tlen.toNat < 1 ∨ 64 < tlen.toNat) →
    ∃ t, exec (.perm srcw tlen) s = .next t ∧ t.status.err = 1) ∧
  (∀ w : Word, decodeCommand w = .illegal w →
    w &&& 0xFFFFFFFFFF8080FF#64 ≠ 0x0000000000000001#64 ∧ 5 < w.toNat)

/-- R62, R91: an index names a register exactly when it is that register's index, and names none exactly when it is
reserved. -/
def Obligations.RegisterMapIsOneToOne : Prop :=
  (∀ (idx : RegIndex) (r : Reg), regOfIndex idx = some r ↔ idx = indexOfReg r) ∧
  (∀ idx : RegIndex, regOfIndex idx = none ↔ ReservedIndex idx) ∧
  (∀ idx : RegIndex, (∃ r, regOfIndex idx = some r ∧ writeGuarded r = true) ↔ GuardedIndex idx)

/-- R92: on an idle machine each command pseudo-instruction is one host access that issues the command it names; `PERM 8, 8`
is the word 0x80801; LDTAB writes its entries one after another from TAB<j>; WAIT is the polling loop. -/
def Obligations.AssembledLinesIssueTheirCommands : Prop :=
  (∀ (srcw tlen : Entry) (s : State) (ops : List HostOp), s.status.busy = false → s.turns = [] →
    ∀ p ∈ [(AsmLine.nop, Instr.nop), (.perm srcw tlen, .perm srcw tlen), (.pc1, .pc1), (.pc2, .pc2),
        (.ksgen, .ksgen), (.ip, .ip)],
      s.host = assemble p.1 ++ ops →
      ∃ t, step s = .next t ∧ t.status.busy = true ∧ t.host = ops ∧ t.cmd = t.pend ∧
        decodeCommand t.pend = p.2) ∧
  permWord 8 8 = 0x0000000000080801#64 ∧
  (∀ (j : Fin 64) (es : List Word) (n : Nat) (h : n < es.length), j.val + es.length ≤ 64 →
    (assemble (.ldtab j es)).length = es.length ∧
    ∃ t, (assemble (.ldtab j es))[n]? = some (.access t) ∧
      decodeTransaction t = .wr (BitVec.ofNat 8 (0x80 + j.val + n)) es[n]) ∧
  assemble .wait = [.wait]

/-! ### NOP and ILLEGAL -/

/-- R162: NOP is the word 0; it clears ERR, ERRIDX and ERRKIND and changes no data register, DV, KSV or OUTW; with the
word 0 pending LASTOP is 0. Any other command that completes with ERR = 0 leaves a result or a schedule. -/
def Obligations.NopClearsTheError : Prop :=
  (∀ w : Word, decodeCommand w = .nop ↔ w = 0) ∧
  (∀ s : State, s.status.busy = true →
    ∃ t, exec .nop s = .next t ∧ NoError t ∧ ResultKept s t ∧ ScheduleKept s t ∧ Completed s t ∧
      (s.pend = 0 → t.status.lastOp = 0)) ∧
  (∀ (i : Instr) (s t : State), i.isCommand = true → i ≠ .nop → exec i s = .next t → t.status.err = 0 →
    t.status.dv = true ∨ t.status.ksv = true)

/-- R163, R176: ILLEGAL completes with ERR = 4, ERRIDX = 0 and ERRKIND = 0, changes no data register, DV, OUTW or KSV, and
LASTOP records the OP field of the word all the same. -/
def Obligations.IllegalRecordsIllegalCommand : Prop :=
  (∀ (w : Word) (s : State), s.status.busy = true → s.pend = w → decodeCommand w = .illegal w →
    ∃ t, exec (.illegal w) s = .next t ∧ t.status.err = 4 ∧ t.status.errIdx = 0 ∧ t.status.errKind = 0 ∧
      ResultKept s t ∧ ScheduleKept s t ∧ Completed s t ∧ t.status.lastOp = w.extractLsb' 0 4) ∧
  (∀ w : Word, 6 ≤ (w.extractLsb' 0 4).toNat → decodeCommand w = .illegal w) ∧
  decodeCommand 0x0000000000000104#64 = .illegal 0x0000000000000104#64 ∧
  decodeCommand 0x8000000000000001#64 = .illegal 0x8000000000000001#64 ∧
  (∃ t, step (issue 0x6 State.reset) = .next t ∧ t.status.err = 4 ∧ t.status.lastOp = 6)

/-! ### The permutation unit -/

/-- R100, R103: the primitive by bits, at any width and any table, and the bound on its result. -/
def Obligations.PermuteSelectsTheNamedBits : Prop :=
  ∀ (w : Nat) (T : List Nat) (v : BitVec w),
    (∀ (i : Nat) (h : i < T.length), 1 ≤ T[i] → T[i] ≤ w →
      (permute T v).getLsbD (T.length - 1 - i) = v.getLsbD (w - T[i])) ∧
    (permute T v).toNat < 2 ^ T.length ∧
    ∀ b, T.length ≤ b → (zext64 (permute T v)).getLsbD b = false

/-- R104: the identity table of n entries gives back every n-bit value; and PERM with it gives the low n bits of DIN. -/
def Obligations.IdentityTableIsIdentity : Prop :=
  (∀ (n : Nat) (x : BitVec n), (permute (List.range' 1 n) x).toNat = x.toNat) ∧
  (∀ (n : Entry) (s : State), s.status.busy = true → 1 ≤ n.toNat → n.toNat ≤ 64 →
    (∀ j : Fin 64, j.val < n.toNat → s.tab[j].toNat = j.val + 1) →
    ∃ t, exec (.perm n n) s = .next t ∧ t.dout.toNat = s.din.toNat % 2 ^ n.toNat)

/-- R107, when every check passes: PERM writes each output bit from the DIN bit its entry names, zeros above TLEN, OUTW,
DV and no error, and nothing else. Repeated entries are admitted (R105), and entries from TLEN on are not looked at. -/
def Obligations.PermWritesThePermutation : Prop :=
  ∀ (srcw tlen : Entry) (s : State), s.status.busy = true →
    1 ≤ tlen.toNat → tlen.toNat ≤ 64 → 1 ≤ srcw.toNat → srcw.toNat ≤ 64 →
    (∀ j : Fin 64, j.val < tlen.toNat → 1 ≤ s.tab[j].toNat ∧ s.tab[j].toNat ≤ srcw.toNat) →
    ∃ t, exec (.perm srcw tlen) s = .next t ∧
      (∀ j : Fin 64, j.val < tlen.toNat →
        t.dout.getLsbD (tlen.toNat - 1 - j.val) = s.din.getLsbD (srcw.toNat - s.tab[j].toNat)) ∧
      (∀ b, tlen.toNat ≤ b → t.dout.getLsbD b = false) ∧ ResultWritten tlen s t

/-- R108, R172 and the order of R179: TLEN out of range is ERRKIND 1; else SRCW out of range is ERRKIND 2; else the first
bad entry is ERRKIND 0 with its index. No other command records error 1. -/
def Obligations.PermFailsAtTheFirstBadCheck : Prop :=
  (∀ (srcw tlen : Entry) (s : State), s.status.busy = true →
    (tlen.toNat < 1 ∨ 64 < tlen.toNat →
      ∃ t, exec (.perm srcw tlen) s = .next t ∧ PermFailed 0 1 s t) ∧
    (1 ≤ tlen.toNat → tlen.toNat ≤ 64 → (srcw.toNat < 1 ∨ 64 < srcw.toNat) →
      ∃ t, exec (.perm srcw tlen) s = .next t ∧ PermFailed 0 2 s t) ∧
    (∀ j : Fin 64, 1 ≤ tlen.toNat → tlen.toNat ≤ 64 → 1 ≤ srcw.toNat → srcw.toNat ≤ 64 → j.val < tlen.toNat →
      (s.tab[j].toNat < 1 ∨ srcw.toNat < s.tab[j].toNat) →
      (∀ i : Fin 64, i.val < j.val → 1 ≤ s.tab[i].toNat ∧ s.tab[i].toNat ≤ srcw.toNat) →
      ∃ t, exec (.perm srcw tlen) s = .next t ∧ PermFailed (BitVec.ofNat 6 j.val) 0 s t)) ∧
  (∀ (i : Instr) (s t : State), i.isCommand = true → (∀ srcw tlen, i ≠ .perm srcw tlen) →
    exec i s = .next t → t.status.err ≠ 1)

/-- R102: PERM's outcome does not depend on the bits of DIN at SRCW or above, whether it succeeds or fails. -/
def Obligations.PermIgnoresBitsAboveTheWidth : Prop :=
  ∀ (srcw tlen : Entry) (s : State) (d : Word), s.status.busy = true →
    (∀ b, b < srcw.toNat → s.din.getLsbD b = d.getLsbD b) →
    ∃ t, exec (.perm srcw tlen) s = .next t ∧
      exec (.perm srcw tlen) { s with din := d } = .next { t with din := d }

/-! ### Tables and rotation -/

/-- R124: the number, range and distinctness of the entries of PC1, PC2 and IP, and that a command with a fixed table never
records InvalidPermutationTable. -/
def Obligations.FixedTablesHaveTheirShape : Prop :=
  (pc1Table.length = 56 ∧ (∀ p ∈ pc1Table, 1 ≤ p ∧ p ≤ 64) ∧ pc1Table.Nodup) ∧
  (pc2Table.length = 48 ∧ (∀ p ∈ pc2Table, 1 ≤ p ∧ p ≤ 56) ∧ pc2Table.Nodup) ∧
  (ipTable.length = 64 ∧ (∀ p ∈ ipTable, 1 ≤ p ∧ p ≤ 64) ∧ ipTable.Nodup) ∧
  (∀ i ∈ [Instr.pc1, .pc2, .ksgen, .ip], ∀ s t : State, exec i s = .next t → t.status.err ≠ 1)

/-- R125: the rotation of each round. -/
def Obligations.RotationScheduleByRound : Prop :=
  (∀ i, i = 1 ∨ i = 2 ∨ i = 9 ∨ i = 16 → shiftAmount i = 1) ∧
  (∀ i, 1 ≤ i → i ≤ 16 → i ≠ 1 → i ≠ 2 → i ≠ 9 → i ≠ 16 → shiftAmount i = 2)

/-- R127: left rotation within 28 bits, as the formula and by bits. -/
def Obligations.RotationWrapsAt28Bits : Prop :=
  (∀ (x : Half) (r : Nat), r ≤ 27 →
    (rotl28 x r).toNat = (x.toNat * 2 ^ r ||| x.toNat / 2 ^ (28 - r)) % 2 ^ 28 ∧
    (∀ b, b < 28 → (rotl28 x r).getLsbD ((b + r) % 28) = x.getLsbD b) ∧
    (1 ≤ r → (rotl28 x r).getLsbD (r - 1) = x.getLsbD 27)) ∧
  (∀ x : Half, rotl28 x 0 = x) ∧
  (∀ i, 1 ≤ i → i ≤ 16 → shiftAmount i = 1 ∨ shiftAmount i = 2)

/-- R128: rotating left and then right by the same amount gives the value back. -/
def Obligations.RotationRoundTrips : Prop :=
  ∀ (x : Half) (r : Nat), r ≤ 27 →
    rotr28 x r = rotl28 x ((28 - r) % 28) ∧ rotr28 (rotl28 x r) r = x

/-- R129, R130: the halves are the high and the low 28 bits of the permuted key; recombining puts C in the high and D in
the low 28 bits; each undoes the other. -/
def Obligations.SplitAndRecombineInvert : Prop :=
  (∀ k0 : PermutedKey, (highHalf k0).toNat = k0.toNat / 2 ^ 28 ∧ (lowHalf k0).toNat = k0.toNat % 2 ^ 28 ∧
    recombine (highHalf k0) (lowHalf k0) = k0) ∧
  (∀ c d : Half, (recombine c d).extractLsb' 28 28 = c ∧ (recombine c d).extractLsb' 0 28 = d)

/-- R126: S[i] is the sum of the amounts of the rounds up to i; after round i each half is C[0] or D[0] rotated by S[i] mod 28; after 16 rounds by 28, so that
C[16] = C[0] and D[16] = D[0] for every key. -/
def Obligations.SixteenRoundsRotateFully : Prop :=
  (∀ i : Fin 17, ((List.range i.val).map fun k => shiftAmount (k + 1)).sum =
    [0, 1, 2, 4, 6, 8, 10, 12, 14, 15, 17, 19, 21, 23, 25, 27, 28].getD i.val 0) ∧
  (∀ (key : Word) (i : Fin 17),
    (generateSchedule key).c[i] = rotl28 (generateSchedule key).c[0]
      ([0, 1, 2, 4, 6, 8, 10, 12, 14, 15, 17, 19, 21, 23, 25, 27, 28].getD i.val 0 % 28) ∧
    (generateSchedule key).d[i] = rotl28 (generateSchedule key).d[0]
      ([0, 1, 2, 4, 6, 8, 10, 12, 14, 15, 17, 19, 21, 23, 25, 27, 28].getD i.val 0 % 28)) ∧
  (∀ key : Word, (generateSchedule key).c[16] = (generateSchedule key).c[0] ∧
    (generateSchedule key).d[16] = (generateSchedule key).d[0])

/-! ### KSGEN, PC1, PC2 and IP -/

/-- R131, R133: KSGEN is the word 4; it writes K[0] by PC1, its halves, and for each round the rotated halves and the
subkey by PC2, all in one step; KSV and no error; DOUT, DV, OUTW and everything else unchanged; and R133's corner cases
and example. -/
def Obligations.KsgenWritesTheSchedule : Prop :=
  (∀ w : Word, decodeCommand w = .ksgen ↔ w = 0x4#64) ∧
  ∀ s : State, s.status.busy = true →
    ∃ t, exec .ksgen s = .next t ∧
      (∀ j, j < 56 → t.sched.k0.getLsbD (55 - j) = s.din.getLsbD (64 - pc1Table.getD j 0)) ∧
      t.sched.c[0] = t.sched.k0.extractLsb' 28 28 ∧ t.sched.d[0] = t.sched.k0.extractLsb' 0 28 ∧
      (∀ i : Fin 16,
        t.sched.c[i.val + 1] = rotl28 t.sched.c[i.val] (shiftAmount (i.val + 1)) ∧
        t.sched.d[i.val + 1] = rotl28 t.sched.d[i.val] (shiftAmount (i.val + 1)) ∧
        ∀ j, j < 48 → t.sched.k[i].getLsbD (47 - j) =
          (t.sched.c[i.val + 1] ++ t.sched.d[i.val + 1]).getLsbD (56 - pc2Table.getD j 0)) ∧
      t.status.ksv = true ∧ NoError t ∧ ResultKept s t ∧ Completed s t ∧
      t.sched.c[16] = t.sched.c[0] ∧ t.sched.d[16] = t.sched.d[0] ∧
      (s.din = 0 ∨ s.din = 0x0101010101010101#64 → t.sched = Schedule.reset) ∧
      (s.din = 0xFFFFFFFFFFFFFFFF#64 → t.sched.k0 = 0xFFFFFFFFFFFFFF#56 ∧
        (∀ i : Fin 16, t.sched.k[i] = 0xFFFFFFFFFFFF#48) ∧
        ∀ i : Fin 17, t.sched.c[i] = 0xFFFFFFF#28 ∧ t.sched.d[i] = 0xFFFFFFF#28) ∧
      (s.din = 0x8000000000000000#64 → t.sched.k[7] = 0 ∧ t.sched.k[14] = 0) ∧
      (s.din = 0x133457799BBCDFF1#64 → t.sched.k0 = 0xF0CCAAF556678F#56 ∧ t.sched.c[0] = 0xF0CCAAF#28 ∧
        t.sched.d[0] = 0x556678F#28 ∧ t.sched.k[0] = 0x1B02EFFC7072#48)

/-- R132: the schedule depends on the key alone: two KSGEN commands on the same DIN write identical schedule files,
whatever else differs. -/
def Obligations.KsgenDependsOnTheKeyAlone : Prop :=
  ∀ s₁ s₂ : State, s₁.status.busy = true → s₂.status.busy = true → s₁.din = s₂.din →
    ∃ t₁ t₂, exec .ksgen s₁ = .next t₁ ∧ exec .ksgen s₂ = .next t₂ ∧ t₁.sched = t₂.sched

/-- R121: PC1 never selects key bits 8, 16, ..., 64, so KSGEN and PC1 give the same result on keys that differ in those
alone. -/
def Obligations.ParityBitsAreIgnored : Prop :=
  (∀ p ∈ [8, 16, 24, 32, 40, 48, 56, 64], p ∉ pc1Table) ∧
  ∀ (s : State) (d : Word), s.status.busy = true → AgreeOffParity s.din d →
    (∃ t, exec .ksgen s = .next t ∧ exec .ksgen { s with din := d } = .next { t with din := d }) ∧
    (∃ t, exec .pc1 s = .next t ∧ exec .pc1 { s with din := d } = .next { t with din := d })

/-- R123: PC2 never selects positions 9, 18, 22, 25, 35, 38, 43 and 54, and depends on each of the 48 others. -/
def Obligations.SubkeysDependOn48Bits : Prop :=
  (∀ p ∈ [9, 18, 22, 25, 35, 38, 43, 54], p ∉ pc2Table) ∧
  (∀ x y : PermutedKey, permutedChoice2 x = permutedChoice2 y ↔
    ∀ p, 1 ≤ p → p ≤ 56 → p ∉ [9, 18, 22, 25, 35, 38, 43, 54] →
      x.getLsbD (56 - p) = y.getLsbD (56 - p))

/-- R134: PC1 is the word 2; it writes PC1 of DIN to DOUT, which is the K[0] that KSGEN would write, with zeros above, OUTW
56, DV and no error, and nothing else; the bits of R121 do not matter; and the example. -/
def Obligations.Pc1WritesThePermutedKey : Prop :=
  (∀ w : Word, decodeCommand w = .pc1 ↔ w = 0x2#64) ∧
  ∀ s : State, s.status.busy = true →
    ∃ t, exec .pc1 s = .next t ∧
      (∀ j, j < 56 → t.dout.getLsbD (55 - j) = s.din.getLsbD (64 - pc1Table.getD j 0)) ∧
      (∀ b, 56 ≤ b → t.dout.getLsbD b = false) ∧ ResultWritten 56 s t ∧
      (∃ u, exec .ksgen s = .next u ∧ t.dout = u.sched.k0.setWidth 64) ∧
      (∀ d, AgreeOffParity s.din d → ∃ u, exec .pc1 { s with din := d } = .next u ∧ u.dout = t.dout) ∧
      (s.din = 0x133457799BBCDFF1#64 → t.dout = 0x00F0CCAAF556678F#64)

/-- R135: PC2 is the word 3; it writes PC2 of DIN[55:0] to DOUT with zeros above, OUTW 48, DV and no error, and nothing
else; DIN[63:56] and the positions of R123 do not matter; on C[i] ++ D[i] of a schedule it gives K[i]; and the
example. -/
def Obligations.Pc2WritesTheSubkey : Prop :=
  (∀ w : Word, decodeCommand w = .pc2 ↔ w = 0x3#64) ∧
  ∀ s : State, s.status.busy = true →
    ∃ t, exec .pc2 s = .next t ∧
      (∀ j, j < 48 → t.dout.getLsbD (47 - j) = s.din.getLsbD (56 - pc2Table.getD j 0)) ∧
      (∀ b, 48 ≤ b → t.dout.getLsbD b = false) ∧ ResultWritten 48 s t ∧
      (∀ d : Word, (∀ p, 1 ≤ p → p ≤ 56 → p ∉ [9, 18, 22, 25, 35, 38, 43, 54] →
        s.din.getLsbD (56 - p) = d.getLsbD (56 - p)) →
        ∃ u, exec .pc2 { s with din := d } = .next u ∧ u.dout = t.dout) ∧
      (∀ (key : Word) (i : Fin 16),
        s.din = ((generateSchedule key).c[i.val + 1] ++ (generateSchedule key).d[i.val + 1]).setWidth 64 →
        t.dout = ((generateSchedule key).k[i]).setWidth 64) ∧
      (s.din = 0x00E19955FAACCF1E#64 → t.dout = 0x00001B02EFFC7072#64)

/-- R152, R153: IP is the word 5; it writes IP of DIN to DOUT, OUTW 64, DV and no error, and nothing else; every bit of DIN
is used; and the corner cases and the example. -/
def Obligations.IpWritesThePermutedBlock : Prop :=
  (∀ w : Word, decodeCommand w = .ip ↔ w = 0x5#64) ∧
  ∀ s : State, s.status.busy = true →
    ∃ t, exec .ip s = .next t ∧
      (∀ j, j < 64 → t.dout.getLsbD (63 - j) = s.din.getLsbD (64 - ipTable.getD j 0)) ∧ ResultWritten 64 s t ∧
      (∀ d u, exec .ip { s with din := d } = .next u → d ≠ s.din → u.dout ≠ t.dout) ∧
      (s.din = 0x8000000000000000#64 → t.dout = 0x0000000001000000#64) ∧
      (s.din = 0x0000000000000001#64 → t.dout = 0x0000008000000000#64) ∧
      (s.din = 0x00000000000000FF#64 → t.dout = 0x8080808080808080#64) ∧
      (s.din = 0x0123456789ABCDEF#64 → t.dout = 0xCC00CCFFF0AAF0AA#64)

/-- R151: IP is a bijection on 64-bit values, with its two fixed values. -/
def Obligations.InitialPermutationIsBijective : Prop :=
  Function.Bijective initialPermute ∧ initialPermute 0 = 0 ∧
    initialPermute 0xFFFFFFFFFFFFFFFF#64 = 0xFFFFFFFFFFFFFFFF#64

/-- R154: a host may run KSGEN on one value of DIN and IP on another in either order, and reads the same schedule, DOUT,
DV, OUTW and KSV afterwards; KSGEN leaves DOUT, DV and OUTW, and IP the schedule file. -/
def Obligations.KsgenAndIpAreIndependent : Prop :=
  ∀ (s : State) (a b : Word), s.status.busy = false →
    ∃ t₁ t₂ u₁ u₂,
      exec .ksgen (issue 0x4 (writeDin a s)) = .next t₁ ∧ exec .ip (issue 0x5 (writeDin b t₁)) = .next t₂ ∧
      exec .ip (issue 0x5 (writeDin b s)) = .next u₁ ∧ exec .ksgen (issue 0x4 (writeDin a u₁)) = .next u₂ ∧
      t₂.sched = u₂.sched ∧ t₂.dout = u₂.dout ∧ t₂.status.dv = u₂.status.dv ∧
      t₂.status.outw = u₂.status.outw ∧ t₂.status.ksv = u₂.status.ksv ∧
      t₂.sched = generateSchedule a ∧ t₂.dout = initialPermute b ∧
      t₁.dout = s.dout ∧ t₁.status.dv = s.status.dv ∧ t₁.status.outw = s.status.outw ∧ u₁.sched = s.sched

/-! ### Host reads and writes -/

/-- R24: the bits of the word that STATUS reads as while no command is pending; the reserved bits are 0. -/
def Obligations.StatusWordHasItsFields : Prop :=
  ∀ s : State, s.status.busy = false → ∃ v, responseOf 0x01#8 s = some v ∧
    v.getLsbD 0 = false ∧ v.getLsbD 1 = s.status.dv ∧ v.getLsbD 2 = s.status.ksv ∧ v.getLsbD 3 = false ∧
    v.extractLsb' 4 4 = s.status.err ∧ v.extractLsb' 8 7 = s.status.outw ∧ v.getLsbD 15 = false ∧
    v.extractLsb' 16 6 = s.status.errIdx ∧ v.extractLsb' 22 2 = s.status.errKind ∧
    v.extractLsb' 24 4 = s.status.lastOp ∧ v.extractLsb' 28 36 = 0

/-- R64, R66, by the index numbers of R62: with BUSY = 0 a read answers the register zero-extended, or 0 for a reserved
index; it always answers, and changes nothing but the response. -/
def Obligations.ReadAnswersTheRegister : Prop :=
  ∀ s : State, s.status.busy = false →
    (∀ idx, ∃ v, exec (.rd idx) s = .next { s with response := some v } ∧ responseOf idx s = some v) ∧
    responseOf 0x00#8 s = some s.cmd ∧ responseOf 0x01#8 s = some (statusWord s.status) ∧
    responseOf 0x02#8 s = some s.din ∧ responseOf 0x03#8 s = some s.dout ∧
    responseOf 0x20#8 s = some (s.sched.k0.setWidth 64) ∧
    (∀ i : Fin 16, responseOf (BitVec.ofNat 8 (0x21 + i.val)) s = some (s.sched.k[i].setWidth 64)) ∧
    (∀ i : Fin 17, responseOf (BitVec.ofNat 8 (0x40 + i.val)) s = some (s.sched.c[i].setWidth 64)) ∧
    (∀ i : Fin 17, responseOf (BitVec.ofNat 8 (0x60 + i.val)) s = some (s.sched.d[i].setWidth 64)) ∧
    (∀ j : Fin 64, responseOf (BitVec.ofNat 8 (0x80 + j.val)) s = some (s.tab[j].setWidth 64)) ∧
    (∀ idx, ReservedIndex idx → responseOf idx s = some 0)

/-- R195: while BUSY = 1 a read of DOUT, K, C or D answers a draw, whatever the register holds, and one of STATUS a draw
with bit 0 = 1; CMD, DIN and TAB answer their stored values and a reserved index 0. A read then answers too. (The draw is
the free value `Config.freeWord` at the counter, which the read advances: the model's form, log entry 2. That the draw of
STATUS covers every bit but bit 0, the reserved bits 3, 15 and 63:28 too, where R33 says they always read 0, follows R64
and R195: log entry 8.) -/
def Obligations.ReadWhileBusyIsADraw : Prop :=
  ∀ s : State, s.status.busy = true →
    (∀ idx, idx = 0x03#8 ∨ (0x20 ≤ idx.toNat ∧ idx.toNat ≤ 0x30) ∨ (0x40 ≤ idx.toNat ∧ idx.toNat ≤ 0x50) ∨
        (0x60 ≤ idx.toNat ∧ idx.toNat ≤ 0x70) →
      exec (.rd idx) s = .next { s with
        response := some (Config.freeWord s.draws), draws := s.draws + 1 }) ∧
    (∃ v, v.getLsbD 0 = true ∧
      (∀ b, 1 ≤ b → v.getLsbD b = (Config.freeWord s.draws).getLsbD b) ∧
      exec (.rd 0x01#8) s = .next { s with response := some v, draws := s.draws + 1 }) ∧
    exec (.rd 0x00#8) s = .next { s with response := some s.cmd } ∧
    exec (.rd 0x02#8) s = .next { s with response := some s.din } ∧
    (∀ j : Fin 64, exec (.rd (BitVec.ofNat 8 (0x80 + j.val))) s =
      .next { s with response := some (s.tab[j].setWidth 64) }) ∧
    (∀ idx, ReservedIndex idx → exec (.rd idx) s = .next { s with response := some 0 })

/-- R69: no read changes a register, and with BUSY = 0 a second read answers the same; no write but that of CMD changes
anything other than the register it names: DIN only at its index, TAB only in 0x80 to 0xBF, and there only the entry
whose index it is. -/
def Obligations.ReadsHaveNoSideEffect : Prop :=
  (∀ (idx : RegIndex) (s : State), ∃ t, exec (.rd idx) s = .next t ∧ RegistersKept s t ∧ t.host = s.host ∧
    t.turns = s.turns ∧ (s.status.busy = false → responseOf idx t = t.response)) ∧
  (∀ (idx : RegIndex) (v : Word) (s t : State), idx ≠ 0x00#8 → exec (.wr idx v) s = .next t →
    t.cmd = s.cmd ∧ t.status = s.status ∧ t.dout = s.dout ∧ t.sched = s.sched ∧ t.pend = s.pend ∧
    HostSideKept s t ∧ (idx ≠ 0x02#8 → t.din = s.din) ∧
    (¬ (0x80 ≤ idx.toNat ∧ idx.toNat ≤ 0xBF) → t.tab = s.tab) ∧
    (∀ i : Fin 64, idx.toNat ≠ 0x80 + i.val → t.tab[i] = s.tab[i]))

/-- R65: what a write stores. CMD issues; DIN takes the value; TAB[j] takes bits 6:0 and no other entry changes; every
other index changes nothing, even while BUSY = 1. -/
def Obligations.WriteStoresTheRegister : Prop :=
  (∀ (v : Word) (s : State), s.status.busy = false →
    exec (.wr 0x00#8 v) s =
      .next { s with cmd := v, pend := v, status := { s.status with busy := true } } ∧
    exec (.wr 0x02#8 v) s = .next { s with din := v } ∧
    ∀ j : Fin 64, ∃ t, exec (.wr (BitVec.ofNat 8 (0x80 + j.val)) v) s = .next t ∧
      t = { s with tab := t.tab } ∧ t.tab[j] = v.extractLsb' 0 7 ∧
      ∀ i : Fin 64, i ≠ j → t.tab[i] = s.tab[i]) ∧
  (∀ (idx : RegIndex) (v : Word) (s : State), ¬ GuardedIndex idx → exec (.wr idx v) s = .next s)

/-- R66, R67: a write to a reserved index or a read-only register has no effect and does not fault, busy or not; a read of
a reserved index answers 0. -/
def Obligations.ReservedAndReadOnlyWritesAreIgnored : Prop :=
  ∀ (idx : RegIndex) (v : Word) (s : State),
    (ReservedIndex idx ∨ ReadOnlyIndex idx → exec (.wr idx v) s = .next s) ∧
    (ReservedIndex idx → responseOf idx s = some 0)

/-- R180: a write of CMD, DIN or TAB while BUSY = 1 stops the run with HostWriteWhileBusy and the index; writes while busy
to read-only and reserved indices are no fault. -/
def Obligations.WriteWhileBusyFaults : Prop :=
  ∀ (idx : RegIndex) (v : Word) (s : State), s.status.busy = true →
    (GuardedIndex idx → exec (.wr idx v) s = .fault (.hostWriteWhileBusy idx)) ∧
    (ReservedIndex idx ∨ ReadOnlyIndex idx → exec (.wr idx v) s = .next s)

/-- R161: issue accepts every value and neither decodes nor checks it; the next completion is of exactly that word; while a
command is pending a second issue is the fault, so there is no queue. -/
def Obligations.IssueAcceptsEveryWord : Prop :=
  (∀ (v : Word) (s : State), s.status.busy = false →
    ∃ t, exec (.wr 0x00#8 v) s = .next t ∧ t.cmd = v ∧ t.pend = v ∧ t.status.busy = true ∧
      t = { s with cmd := t.cmd, pend := t.pend, status := { s.status with busy := true } } ∧
      engineTurn t = exec (decodeCommand v) t ∧
      (decodeCommand v = .illegal v → ∃ u, engineTurn t = .next u ∧ u.status.err = 4)) ∧
  (∀ (v : Word) (s : State), s.status.busy = true →
    exec (.wr 0x00#8 v) s = .fault (.hostWriteWhileBusy 0x00#8))

/-- R74, R23, R34, R42: with no command pending, what is written is what a read answers next: the whole value of CMD or
DIN, bits 6:0 of a TAB entry; and a write of DIN or TAB leaves what every other index answers as it was. -/
def Obligations.WrittenValueReadsBack : Prop :=
  ∀ (v : Word) (s : State), s.status.busy = false →
    (∃ t, exec (.wr 0x00#8 v) s = .next t ∧ responseOf 0x00#8 t = some v) ∧
    (∃ t, exec (.wr 0x02#8 v) s = .next t ∧ responseOf 0x02#8 t = some v ∧
      ∀ idx, idx ≠ 0x02#8 → responseOf idx t = responseOf idx s) ∧
    (∀ j : Fin 64, ∃ t, exec (.wr (BitVec.ofNat 8 (0x80 + j.val)) v) s = .next t ∧
      responseOf (BitVec.ofNat 8 (0x80 + j.val)) t = some (v &&& 0x7F#64) ∧
      ∀ idx, idx ≠ BitVec.ofNat 8 (0x80 + j.val) → responseOf idx t = responseOf idx s)

/-- R71: byte i of an 8-byte array is DIN[63-8i:56-8i], and DES bit 1 is the most significant bit of byte 0. -/
def Obligations.ByteArraysPackBigEndian : Prop :=
  ∀ b : Vector (BitVec 8) 8,
    (∀ i : Fin 8, (packBytes b).extractLsb' (56 - 8 * i.val) 8 = b[i]) ∧
    desBit (packBytes b) 1 = b[0].getLsbD 7

/-! ### The whole machine -/

/-- R30, R31, R36, R171, R40, R27, R23 together: the invariant `Inv` of Safety.lean is kept by every step, from every state
that meets it. -/
def Obligations.EveryStepKeepsTheInvariant : Prop :=
  ∀ s t : State, Inv s → step s = .next t → Inv t

/-- The invariant holds after reset (R36, R27, R190). -/
def Obligations.ResetMeetsTheInvariant : Prop := Inv State.reset

/-- R40: only the completion of KSGEN writes the schedule file, all of it in that one step, and else only reset changes
it; R27: the same of KSV. -/
def Obligations.OnlyKsgenAndResetChangeTheSchedule : Prop :=
  ∀ s t : State, step s = .next t →
    (t.sched ≠ s.sched ∨ t.status.ksv ≠ s.status.ksv →
      (mover s = .reset ∧ t.sched = Schedule.reset) ∨
      (mover s = .engine ∧ s.status.busy = true ∧ s.pend = 0x4#64)) ∧
    (mover s = .engine → s.status.busy = true → s.pend = 0x4#64 →
      t.sched = generateSchedule s.din ∧ t.status.ksv = true)

/-- R25: BUSY is set only by an issue, which the host makes while BUSY = 0, and cleared only by a completion or reset;
a read of STATUS always answers the current BUSY in bit 0; its reset value is 0. -/
def Obligations.BusyIsSetByIssueAndClearedByCompletion : Prop :=
  (∀ s : State, ∃ v, responseOf 0x01#8 s = some v ∧ v.getLsbD 0 = s.status.busy) ∧
  State.reset.status.busy = false ∧
  ∀ s t : State, step s = .next t →
    (s.status.busy = false → t.status.busy = true →
      mover s = .host ∧ t.cmd = t.pend ∧
        ∃ tr rest v, s.host = .access tr :: rest ∧ decodeTransaction tr = .wr 0x00#8 v ∧ t.pend = v) ∧
    (s.status.busy = true → t.status.busy = false → mover s = .engine ∨ mover s = .reset) ∧
    (mover s = .engine ∨ mover s = .reset → t.status.busy = false)

/-- R74, R78, R194: from issue to completion nothing a pending command reads or writes changes: a step that neither
completes it nor resets leaves every register, PEND included, as it was. -/
def Obligations.NothingChangesWhileBusy : Prop :=
  ∀ s t : State, s.status.busy = true → step s = .next t → t.status.busy = true → RegistersKept s t

/-- R23, R34, R42, R44: the engine never changes CMD, DIN, TAB or PEND; on the host's turn CMD and PEND change only by a write
of CMD, to its value, DIN only by a write of DIN, and a TAB entry only by a write of that entry. R24, R35: the host changes
no field of STATUS but BUSY, and not DOUT or the schedule file. -/
def Obligations.HostAndEngineWriteTheirOwnRegisters : Prop :=
  ∀ s t : State, step s = .next t →
    (mover s = .engine → HostRegistersKept s t) ∧
    (mover s = .host → t.dout = s.dout ∧ t.sched = s.sched ∧
      t.status = { s.status with busy := t.status.busy } ∧
      (t.cmd ≠ s.cmd ∨ t.pend ≠ s.pend → ∃ tr rest v, s.host = .access tr :: rest ∧
        decodeTransaction tr = .wr 0x00#8 v ∧ t.cmd = v ∧ t.pend = v) ∧
      (t.din ≠ s.din → ∃ tr rest, s.host = .access tr :: rest ∧ decodeTransaction tr = .wr 0x02#8 t.din) ∧
      (∀ j : Fin 64, t.tab[j] ≠ s.tab[j] → ∃ tr rest v, s.host = .access tr :: rest ∧
        decodeTransaction tr = .wr (BitVec.ofNat 8 (0x80 + j.val)) v ∧ t.tab[j] = v.extractLsb' 0 7))

/-- R171, R30, R31: the error fields each command can leave, and that no step writes a reserved code. -/
def Obligations.OnlyTheListedErrorsAreWritten : Prop :=
  (∀ (i : Instr) (s t : State), i.isCommand = true → exec i s = .next t →
    NoError t ∨
    ((∃ srcw tlen, i = .perm srcw tlen) ∧ t.status.err = 1 ∧ t.status.errKind ≠ 3 ∧
      (t.status.errKind ≠ 0 → t.status.errIdx = 0)) ∨
    ((∃ w, i = .illegal w) ∧ t.status.err = 4 ∧ t.status.errIdx = 0 ∧ t.status.errKind = 0)) ∧
  (∀ s t : State, step s = .next t → t.status.err ≠ s.status.err →
    (t.status.err = 0 ∨ t.status.err = 1 ∨ t.status.err = 4) ∧
    (mover s = .reset ∨ (mover s = .engine ∧ s.status.busy = true)))

/-- R180, R64, R178: the machine stops exactly on a host write of CMD, DIN or TAB while BUSY = 1, with that index; no
other step faults and none is refused. -/
def Obligations.OnlyBusyWritesStopTheMachine : Prop :=
  (∀ (s : State) (f : Fault), step s = .fault f ↔
    mover s = .host ∧ s.status.busy = true ∧
      ∃ idx, nextWriteGuarded s idx ∧ f = .hostWriteWhileBusy idx) ∧
  (∀ (s : State) (r : Refusal), step s ≠ .refused r) ∧
  (∀ s : State, SafeStep s ↔
    ¬ (mover s = .host ∧ s.status.busy = true ∧ ∃ idx, nextWriteGuarded s idx))

/-- R198: with the engine's step eventually taken, a `WAIT` loop ends, from every state and under every interleaving, and
with BUSY = 0. (That the listed turns are finite and the engine moves past their end is the model's form of weak
fairness, log entry 1.) -/
def Obligations.WaitLoopsEnd : Prop :=
  ∀ s : State, s.host = [.wait] →
    ∃ t : State, Host.Core.run Sys2Proof.core (s.turns.length + 2) s = .next t ∧
      t.host = [] ∧ t.status.busy = false
end

