-- ==== Sys2Proof/Laws/State.lean ====
section
/-!
SUPPORT. One lemma per field per update of STATUS and of State, true by rfl, so that no proof unfolds a record update.
-/

namespace Sys2Proof.Machine

/-! `statusSuccess` -/

@[simp] theorem statusSuccess_busy (st : Status) :
    (statusSuccess st).busy = st.busy := rfl

@[simp] theorem statusSuccess_dv (st : Status) :
    (statusSuccess st).dv = st.dv := rfl

@[simp] theorem statusSuccess_ksv (st : Status) :
    (statusSuccess st).ksv = st.ksv := rfl

@[simp] theorem statusSuccess_err (st : Status) :
    (statusSuccess st).err = 0 := rfl

@[simp] theorem statusSuccess_outw (st : Status) :
    (statusSuccess st).outw = st.outw := rfl

@[simp] theorem statusSuccess_errIdx (st : Status) :
    (statusSuccess st).errIdx = 0 := rfl

@[simp] theorem statusSuccess_errKind (st : Status) :
    (statusSuccess st).errKind = 0 := rfl

@[simp] theorem statusSuccess_lastOp (st : Status) :
    (statusSuccess st).lastOp = st.lastOp := rfl

/-! `statusError` -/

@[simp] theorem statusError_busy (c : BitVec 4) (i : BitVec 6) (k : BitVec 2) (st : Status) :
    (statusError c i k st).busy = st.busy := rfl

@[simp] theorem statusError_dv (c : BitVec 4) (i : BitVec 6) (k : BitVec 2) (st : Status) :
    (statusError c i k st).dv = st.dv := rfl

@[simp] theorem statusError_ksv (c : BitVec 4) (i : BitVec 6) (k : BitVec 2) (st : Status) :
    (statusError c i k st).ksv = st.ksv := rfl

@[simp] theorem statusError_err (c : BitVec 4) (i : BitVec 6) (k : BitVec 2) (st : Status) :
    (statusError c i k st).err = c := rfl

@[simp] theorem statusError_outw (c : BitVec 4) (i : BitVec 6) (k : BitVec 2) (st : Status) :
    (statusError c i k st).outw = st.outw := rfl

@[simp] theorem statusError_errIdx (c : BitVec 4) (i : BitVec 6) (k : BitVec 2) (st : Status) :
    (statusError c i k st).errIdx = i := rfl

@[simp] theorem statusError_errKind (c : BitVec 4) (i : BitVec 6) (k : BitVec 2) (st : Status) :
    (statusError c i k st).errKind = k := rfl

@[simp] theorem statusError_lastOp (c : BitVec 4) (i : BitVec 6) (k : BitVec 2) (st : Status) :
    (statusError c i k st).lastOp = st.lastOp := rfl

/-! `statusResult` -/

@[simp] theorem statusResult_busy (w : BitVec 7) (st : Status) :
    (statusResult w st).busy = st.busy := rfl

@[simp] theorem statusResult_dv (w : BitVec 7) (st : Status) :
    (statusResult w st).dv = true := rfl

@[simp] theorem statusResult_ksv (w : BitVec 7) (st : Status) :
    (statusResult w st).ksv = st.ksv := rfl

@[simp] theorem statusResult_err (w : BitVec 7) (st : Status) :
    (statusResult w st).err = st.err := rfl

@[simp] theorem statusResult_outw (w : BitVec 7) (st : Status) :
    (statusResult w st).outw = w := rfl

@[simp] theorem statusResult_errIdx (w : BitVec 7) (st : Status) :
    (statusResult w st).errIdx = st.errIdx := rfl

@[simp] theorem statusResult_errKind (w : BitVec 7) (st : Status) :
    (statusResult w st).errKind = st.errKind := rfl

@[simp] theorem statusResult_lastOp (w : BitVec 7) (st : Status) :
    (statusResult w st).lastOp = st.lastOp := rfl

/-! `statusNoResult` -/

@[simp] theorem statusNoResult_busy (st : Status) :
    (statusNoResult st).busy = st.busy := rfl

@[simp] theorem statusNoResult_dv (st : Status) :
    (statusNoResult st).dv = false := rfl

@[simp] theorem statusNoResult_ksv (st : Status) :
    (statusNoResult st).ksv = st.ksv := rfl

@[simp] theorem statusNoResult_err (st : Status) :
    (statusNoResult st).err = st.err := rfl

@[simp] theorem statusNoResult_outw (st : Status) :
    (statusNoResult st).outw = 0 := rfl

@[simp] theorem statusNoResult_errIdx (st : Status) :
    (statusNoResult st).errIdx = st.errIdx := rfl

@[simp] theorem statusNoResult_errKind (st : Status) :
    (statusNoResult st).errKind = st.errKind := rfl

@[simp] theorem statusNoResult_lastOp (st : Status) :
    (statusNoResult st).lastOp = st.lastOp := rfl

/-! `statusScheduled` -/

@[simp] theorem statusScheduled_busy (st : Status) :
    (statusScheduled st).busy = st.busy := rfl

@[simp] theorem statusScheduled_dv (st : Status) :
    (statusScheduled st).dv = st.dv := rfl

@[simp] theorem statusScheduled_ksv (st : Status) :
    (statusScheduled st).ksv = true := rfl

@[simp] theorem statusScheduled_err (st : Status) :
    (statusScheduled st).err = st.err := rfl

@[simp] theorem statusScheduled_outw (st : Status) :
    (statusScheduled st).outw = st.outw := rfl

@[simp] theorem statusScheduled_errIdx (st : Status) :
    (statusScheduled st).errIdx = st.errIdx := rfl

@[simp] theorem statusScheduled_errKind (st : Status) :
    (statusScheduled st).errKind = st.errKind := rfl

@[simp] theorem statusScheduled_lastOp (st : Status) :
    (statusScheduled st).lastOp = st.lastOp := rfl

/-! `statusCompleted` -/

@[simp] theorem statusCompleted_busy (op : BitVec 4) (st : Status) :
    (statusCompleted op st).busy = false := rfl

@[simp] theorem statusCompleted_dv (op : BitVec 4) (st : Status) :
    (statusCompleted op st).dv = st.dv := rfl

@[simp] theorem statusCompleted_ksv (op : BitVec 4) (st : Status) :
    (statusCompleted op st).ksv = st.ksv := rfl

@[simp] theorem statusCompleted_err (op : BitVec 4) (st : Status) :
    (statusCompleted op st).err = st.err := rfl

@[simp] theorem statusCompleted_outw (op : BitVec 4) (st : Status) :
    (statusCompleted op st).outw = st.outw := rfl

@[simp] theorem statusCompleted_errIdx (op : BitVec 4) (st : Status) :
    (statusCompleted op st).errIdx = st.errIdx := rfl

@[simp] theorem statusCompleted_errKind (op : BitVec 4) (st : Status) :
    (statusCompleted op st).errKind = st.errKind := rfl

@[simp] theorem statusCompleted_lastOp (op : BitVec 4) (st : Status) :
    (statusCompleted op st).lastOp = op := rfl

/-! `statusIssued` -/

@[simp] theorem statusIssued_busy (st : Status) :
    (statusIssued st).busy = true := rfl

@[simp] theorem statusIssued_dv (st : Status) :
    (statusIssued st).dv = st.dv := rfl

@[simp] theorem statusIssued_ksv (st : Status) :
    (statusIssued st).ksv = st.ksv := rfl

@[simp] theorem statusIssued_err (st : Status) :
    (statusIssued st).err = st.err := rfl

@[simp] theorem statusIssued_outw (st : Status) :
    (statusIssued st).outw = st.outw := rfl

@[simp] theorem statusIssued_errIdx (st : Status) :
    (statusIssued st).errIdx = st.errIdx := rfl

@[simp] theorem statusIssued_errKind (st : Status) :
    (statusIssued st).errKind = st.errKind := rfl

@[simp] theorem statusIssued_lastOp (st : Status) :
    (statusIssued st).lastOp = st.lastOp := rfl

/-! `writeResult` -/

@[simp] theorem writeResult_cmd (w : BitVec 7) (r : Word) (s : State) :
    (writeResult w r s).cmd = s.cmd := rfl

@[simp] theorem writeResult_status (w : BitVec 7) (r : Word) (s : State) :
    (writeResult w r s).status = statusSuccess (statusResult w s.status) := rfl

@[simp] theorem writeResult_din (w : BitVec 7) (r : Word) (s : State) :
    (writeResult w r s).din = s.din := rfl

@[simp] theorem writeResult_dout (w : BitVec 7) (r : Word) (s : State) :
    (writeResult w r s).dout = r := rfl

@[simp] theorem writeResult_sched (w : BitVec 7) (r : Word) (s : State) :
    (writeResult w r s).sched = s.sched := rfl

@[simp] theorem writeResult_tab (w : BitVec 7) (r : Word) (s : State) :
    (writeResult w r s).tab = s.tab := rfl

@[simp] theorem writeResult_pend (w : BitVec 7) (r : Word) (s : State) :
    (writeResult w r s).pend = s.pend := rfl

@[simp] theorem writeResult_host (w : BitVec 7) (r : Word) (s : State) :
    (writeResult w r s).host = s.host := rfl

@[simp] theorem writeResult_turns (w : BitVec 7) (r : Word) (s : State) :
    (writeResult w r s).turns = s.turns := rfl

@[simp] theorem writeResult_response (w : BitVec 7) (r : Word) (s : State) :
    (writeResult w r s).response = s.response := rfl

@[simp] theorem writeResult_draws (w : BitVec 7) (r : Word) (s : State) :
    (writeResult w r s).draws = s.draws := rfl

/-! `writeSchedule` -/

@[simp] theorem writeSchedule_cmd (sch : Schedule) (s : State) :
    (writeSchedule sch s).cmd = s.cmd := rfl

@[simp] theorem writeSchedule_status (sch : Schedule) (s : State) :
    (writeSchedule sch s).status = statusSuccess (statusScheduled s.status) := rfl

@[simp] theorem writeSchedule_din (sch : Schedule) (s : State) :
    (writeSchedule sch s).din = s.din := rfl

@[simp] theorem writeSchedule_dout (sch : Schedule) (s : State) :
    (writeSchedule sch s).dout = s.dout := rfl

@[simp] theorem writeSchedule_sched (sch : Schedule) (s : State) :
    (writeSchedule sch s).sched = sch := rfl

@[simp] theorem writeSchedule_tab (sch : Schedule) (s : State) :
    (writeSchedule sch s).tab = s.tab := rfl

@[simp] theorem writeSchedule_pend (sch : Schedule) (s : State) :
    (writeSchedule sch s).pend = s.pend := rfl

@[simp] theorem writeSchedule_host (sch : Schedule) (s : State) :
    (writeSchedule sch s).host = s.host := rfl

@[simp] theorem writeSchedule_turns (sch : Schedule) (s : State) :
    (writeSchedule sch s).turns = s.turns := rfl

@[simp] theorem writeSchedule_response (sch : Schedule) (s : State) :
    (writeSchedule sch s).response = s.response := rfl

@[simp] theorem writeSchedule_draws (sch : Schedule) (s : State) :
    (writeSchedule sch s).draws = s.draws := rfl

/-! `writeSuccess` -/

@[simp] theorem writeSuccess_cmd (s : State) :
    (writeSuccess s).cmd = s.cmd := rfl

@[simp] theorem writeSuccess_status (s : State) :
    (writeSuccess s).status = statusSuccess s.status := rfl

@[simp] theorem writeSuccess_din (s : State) :
    (writeSuccess s).din = s.din := rfl

@[simp] theorem writeSuccess_dout (s : State) :
    (writeSuccess s).dout = s.dout := rfl

@[simp] theorem writeSuccess_sched (s : State) :
    (writeSuccess s).sched = s.sched := rfl

@[simp] theorem writeSuccess_tab (s : State) :
    (writeSuccess s).tab = s.tab := rfl

@[simp] theorem writeSuccess_pend (s : State) :
    (writeSuccess s).pend = s.pend := rfl

@[simp] theorem writeSuccess_host (s : State) :
    (writeSuccess s).host = s.host := rfl

@[simp] theorem writeSuccess_turns (s : State) :
    (writeSuccess s).turns = s.turns := rfl

@[simp] theorem writeSuccess_response (s : State) :
    (writeSuccess s).response = s.response := rfl

@[simp] theorem writeSuccess_draws (s : State) :
    (writeSuccess s).draws = s.draws := rfl

/-! `raiseError` -/

@[simp] theorem raiseError_cmd (c : BitVec 4) (i : BitVec 6) (k : BitVec 2) (s : State) :
    (raiseError c i k s).cmd = s.cmd := rfl

@[simp] theorem raiseError_status (c : BitVec 4) (i : BitVec 6) (k : BitVec 2) (s : State) :
    (raiseError c i k s).status = statusError c i k s.status := rfl

@[simp] theorem raiseError_din (c : BitVec 4) (i : BitVec 6) (k : BitVec 2) (s : State) :
    (raiseError c i k s).din = s.din := rfl

@[simp] theorem raiseError_dout (c : BitVec 4) (i : BitVec 6) (k : BitVec 2) (s : State) :
    (raiseError c i k s).dout = s.dout := rfl

@[simp] theorem raiseError_sched (c : BitVec 4) (i : BitVec 6) (k : BitVec 2) (s : State) :
    (raiseError c i k s).sched = s.sched := rfl

@[simp] theorem raiseError_tab (c : BitVec 4) (i : BitVec 6) (k : BitVec 2) (s : State) :
    (raiseError c i k s).tab = s.tab := rfl

@[simp] theorem raiseError_pend (c : BitVec 4) (i : BitVec 6) (k : BitVec 2) (s : State) :
    (raiseError c i k s).pend = s.pend := rfl

@[simp] theorem raiseError_host (c : BitVec 4) (i : BitVec 6) (k : BitVec 2) (s : State) :
    (raiseError c i k s).host = s.host := rfl

@[simp] theorem raiseError_turns (c : BitVec 4) (i : BitVec 6) (k : BitVec 2) (s : State) :
    (raiseError c i k s).turns = s.turns := rfl

@[simp] theorem raiseError_response (c : BitVec 4) (i : BitVec 6) (k : BitVec 2) (s : State) :
    (raiseError c i k s).response = s.response := rfl

@[simp] theorem raiseError_draws (c : BitVec 4) (i : BitVec 6) (k : BitVec 2) (s : State) :
    (raiseError c i k s).draws = s.draws := rfl

/-! `clearResult` -/

@[simp] theorem clearResult_cmd (s : State) :
    (clearResult s).cmd = s.cmd := rfl

@[simp] theorem clearResult_status (s : State) :
    (clearResult s).status = statusNoResult s.status := rfl

@[simp] theorem clearResult_din (s : State) :
    (clearResult s).din = s.din := rfl

@[simp] theorem clearResult_dout (s : State) :
    (clearResult s).dout = 0 := rfl

@[simp] theorem clearResult_sched (s : State) :
    (clearResult s).sched = s.sched := rfl

@[simp] theorem clearResult_tab (s : State) :
    (clearResult s).tab = s.tab := rfl

@[simp] theorem clearResult_pend (s : State) :
    (clearResult s).pend = s.pend := rfl

@[simp] theorem clearResult_host (s : State) :
    (clearResult s).host = s.host := rfl

@[simp] theorem clearResult_turns (s : State) :
    (clearResult s).turns = s.turns := rfl

@[simp] theorem clearResult_response (s : State) :
    (clearResult s).response = s.response := rfl

@[simp] theorem clearResult_draws (s : State) :
    (clearResult s).draws = s.draws := rfl

/-! `complete` -/

@[simp] theorem complete_cmd (s : State) :
    (complete s).cmd = s.cmd := rfl

@[simp] theorem complete_status (s : State) :
    (complete s).status = statusCompleted (opField s.pend) s.status := rfl

@[simp] theorem complete_din (s : State) :
    (complete s).din = s.din := rfl

@[simp] theorem complete_dout (s : State) :
    (complete s).dout = s.dout := rfl

@[simp] theorem complete_sched (s : State) :
    (complete s).sched = s.sched := rfl

@[simp] theorem complete_tab (s : State) :
    (complete s).tab = s.tab := rfl

@[simp] theorem complete_pend (s : State) :
    (complete s).pend = s.pend := rfl

@[simp] theorem complete_host (s : State) :
    (complete s).host = s.host := rfl

@[simp] theorem complete_turns (s : State) :
    (complete s).turns = s.turns := rfl

@[simp] theorem complete_response (s : State) :
    (complete s).response = s.response := rfl

@[simp] theorem complete_draws (s : State) :
    (complete s).draws = s.draws := rfl

/-! `issue` -/

@[simp] theorem issue_cmd (v : Word) (s : State) :
    (issue v s).cmd = v := rfl

@[simp] theorem issue_status (v : Word) (s : State) :
    (issue v s).status = statusIssued s.status := rfl

@[simp] theorem issue_din (v : Word) (s : State) :
    (issue v s).din = s.din := rfl

@[simp] theorem issue_dout (v : Word) (s : State) :
    (issue v s).dout = s.dout := rfl

@[simp] theorem issue_sched (v : Word) (s : State) :
    (issue v s).sched = s.sched := rfl

@[simp] theorem issue_tab (v : Word) (s : State) :
    (issue v s).tab = s.tab := rfl

@[simp] theorem issue_pend (v : Word) (s : State) :
    (issue v s).pend = v := rfl

@[simp] theorem issue_host (v : Word) (s : State) :
    (issue v s).host = s.host := rfl

@[simp] theorem issue_turns (v : Word) (s : State) :
    (issue v s).turns = s.turns := rfl

@[simp] theorem issue_response (v : Word) (s : State) :
    (issue v s).response = s.response := rfl

@[simp] theorem issue_draws (v : Word) (s : State) :
    (issue v s).draws = s.draws := rfl

/-! `writeDin` -/

@[simp] theorem writeDin_cmd (v : Word) (s : State) :
    (writeDin v s).cmd = s.cmd := rfl

@[simp] theorem writeDin_status (v : Word) (s : State) :
    (writeDin v s).status = s.status := rfl

@[simp] theorem writeDin_din (v : Word) (s : State) :
    (writeDin v s).din = v := rfl

@[simp] theorem writeDin_dout (v : Word) (s : State) :
    (writeDin v s).dout = s.dout := rfl

@[simp] theorem writeDin_sched (v : Word) (s : State) :
    (writeDin v s).sched = s.sched := rfl

@[simp] theorem writeDin_tab (v : Word) (s : State) :
    (writeDin v s).tab = s.tab := rfl

@[simp] theorem writeDin_pend (v : Word) (s : State) :
    (writeDin v s).pend = s.pend := rfl

@[simp] theorem writeDin_host (v : Word) (s : State) :
    (writeDin v s).host = s.host := rfl

@[simp] theorem writeDin_turns (v : Word) (s : State) :
    (writeDin v s).turns = s.turns := rfl

@[simp] theorem writeDin_response (v : Word) (s : State) :
    (writeDin v s).response = s.response := rfl

@[simp] theorem writeDin_draws (v : Word) (s : State) :
    (writeDin v s).draws = s.draws := rfl

/-! `writeTab` -/

@[simp] theorem writeTab_cmd (j : Fin 64) (v : Word) (s : State) :
    (writeTab j v s).cmd = s.cmd := rfl

@[simp] theorem writeTab_status (j : Fin 64) (v : Word) (s : State) :
    (writeTab j v s).status = s.status := rfl

@[simp] theorem writeTab_din (j : Fin 64) (v : Word) (s : State) :
    (writeTab j v s).din = s.din := rfl

@[simp] theorem writeTab_dout (j : Fin 64) (v : Word) (s : State) :
    (writeTab j v s).dout = s.dout := rfl

@[simp] theorem writeTab_sched (j : Fin 64) (v : Word) (s : State) :
    (writeTab j v s).sched = s.sched := rfl

@[simp] theorem writeTab_tab (j : Fin 64) (v : Word) (s : State) :
    (writeTab j v s).tab = s.tab.set j.val (v.setWidth 7) := rfl

@[simp] theorem writeTab_pend (j : Fin 64) (v : Word) (s : State) :
    (writeTab j v s).pend = s.pend := rfl

@[simp] theorem writeTab_host (j : Fin 64) (v : Word) (s : State) :
    (writeTab j v s).host = s.host := rfl

@[simp] theorem writeTab_turns (j : Fin 64) (v : Word) (s : State) :
    (writeTab j v s).turns = s.turns := rfl

@[simp] theorem writeTab_response (j : Fin 64) (v : Word) (s : State) :
    (writeTab j v s).response = s.response := rfl

@[simp] theorem writeTab_draws (j : Fin 64) (v : Word) (s : State) :
    (writeTab j v s).draws = s.draws := rfl

/-! `respond` -/

@[simp] theorem respond_cmd (v : Word) (s : State) :
    (respond v s).cmd = s.cmd := rfl

@[simp] theorem respond_status (v : Word) (s : State) :
    (respond v s).status = s.status := rfl

@[simp] theorem respond_din (v : Word) (s : State) :
    (respond v s).din = s.din := rfl

@[simp] theorem respond_dout (v : Word) (s : State) :
    (respond v s).dout = s.dout := rfl

@[simp] theorem respond_sched (v : Word) (s : State) :
    (respond v s).sched = s.sched := rfl

@[simp] theorem respond_tab (v : Word) (s : State) :
    (respond v s).tab = s.tab := rfl

@[simp] theorem respond_pend (v : Word) (s : State) :
    (respond v s).pend = s.pend := rfl

@[simp] theorem respond_host (v : Word) (s : State) :
    (respond v s).host = s.host := rfl

@[simp] theorem respond_turns (v : Word) (s : State) :
    (respond v s).turns = s.turns := rfl

@[simp] theorem respond_response (v : Word) (s : State) :
    (respond v s).response = some v := rfl

@[simp] theorem respond_draws (v : Word) (s : State) :
    (respond v s).draws = s.draws := rfl

/-! `countDraw` -/

@[simp] theorem countDraw_cmd (s : State) :
    (countDraw s).cmd = s.cmd := rfl

@[simp] theorem countDraw_status (s : State) :
    (countDraw s).status = s.status := rfl

@[simp] theorem countDraw_din (s : State) :
    (countDraw s).din = s.din := rfl

@[simp] theorem countDraw_dout (s : State) :
    (countDraw s).dout = s.dout := rfl

@[simp] theorem countDraw_sched (s : State) :
    (countDraw s).sched = s.sched := rfl

@[simp] theorem countDraw_tab (s : State) :
    (countDraw s).tab = s.tab := rfl

@[simp] theorem countDraw_pend (s : State) :
    (countDraw s).pend = s.pend := rfl

@[simp] theorem countDraw_host (s : State) :
    (countDraw s).host = s.host := rfl

@[simp] theorem countDraw_turns (s : State) :
    (countDraw s).turns = s.turns := rfl

@[simp] theorem countDraw_response (s : State) :
    (countDraw s).response = s.response := rfl

@[simp] theorem countDraw_draws (s : State) :
    (countDraw s).draws = s.draws + 1 := rfl

/-! `applyReset` -/

@[simp] theorem applyReset_cmd (s : State) :
    (applyReset s).cmd = 0 := rfl

@[simp] theorem applyReset_status (s : State) :
    (applyReset s).status = Status.reset := rfl

@[simp] theorem applyReset_din (s : State) :
    (applyReset s).din = 0 := rfl

@[simp] theorem applyReset_dout (s : State) :
    (applyReset s).dout = 0 := rfl

@[simp] theorem applyReset_sched (s : State) :
    (applyReset s).sched = Schedule.reset := rfl

@[simp] theorem applyReset_tab (s : State) :
    (applyReset s).tab = Vector.replicate 64 0 := rfl

@[simp] theorem applyReset_pend (s : State) :
    (applyReset s).pend = 0 := rfl

@[simp] theorem applyReset_host (s : State) :
    (applyReset s).host = s.host := rfl

@[simp] theorem applyReset_turns (s : State) :
    (applyReset s).turns = s.turns := rfl

@[simp] theorem applyReset_response (s : State) :
    (applyReset s).response = s.response := rfl

@[simp] theorem applyReset_draws (s : State) :
    (applyReset s).draws = s.draws := rfl

/-! `popTurn` -/

@[simp] theorem popTurn_cmd (s : State) :
    (popTurn s).cmd = s.cmd := rfl

@[simp] theorem popTurn_status (s : State) :
    (popTurn s).status = s.status := rfl

@[simp] theorem popTurn_din (s : State) :
    (popTurn s).din = s.din := rfl

@[simp] theorem popTurn_dout (s : State) :
    (popTurn s).dout = s.dout := rfl

@[simp] theorem popTurn_sched (s : State) :
    (popTurn s).sched = s.sched := rfl

@[simp] theorem popTurn_tab (s : State) :
    (popTurn s).tab = s.tab := rfl

@[simp] theorem popTurn_pend (s : State) :
    (popTurn s).pend = s.pend := rfl

@[simp] theorem popTurn_host (s : State) :
    (popTurn s).host = s.host := rfl

@[simp] theorem popTurn_turns (s : State) :
    (popTurn s).turns = s.turns.tail := rfl

@[simp] theorem popTurn_response (s : State) :
    (popTurn s).response = s.response := rfl

@[simp] theorem popTurn_draws (s : State) :
    (popTurn s).draws = s.draws := rfl

/-! `popHost` -/

@[simp] theorem popHost_cmd (s : State) :
    (popHost s).cmd = s.cmd := rfl

@[simp] theorem popHost_status (s : State) :
    (popHost s).status = s.status := rfl

@[simp] theorem popHost_din (s : State) :
    (popHost s).din = s.din := rfl

@[simp] theorem popHost_dout (s : State) :
    (popHost s).dout = s.dout := rfl

@[simp] theorem popHost_sched (s : State) :
    (popHost s).sched = s.sched := rfl

@[simp] theorem popHost_tab (s : State) :
    (popHost s).tab = s.tab := rfl

@[simp] theorem popHost_pend (s : State) :
    (popHost s).pend = s.pend := rfl

@[simp] theorem popHost_host (s : State) :
    (popHost s).host = s.host.tail := rfl

@[simp] theorem popHost_turns (s : State) :
    (popHost s).turns = s.turns := rfl

@[simp] theorem popHost_response (s : State) :
    (popHost s).response = s.response := rfl

@[simp] theorem popHost_draws (s : State) :
    (popHost s).draws = s.draws := rfl

/-! `placeCommand` -/

@[simp] theorem placeCommand_cmd (w : Word) (s : State) :
    (placeCommand w s).cmd = w := rfl

@[simp] theorem placeCommand_status (w : Word) (s : State) :
    (placeCommand w s).status = statusIssued s.status := rfl

@[simp] theorem placeCommand_din (w : Word) (s : State) :
    (placeCommand w s).din = s.din := rfl

@[simp] theorem placeCommand_dout (w : Word) (s : State) :
    (placeCommand w s).dout = s.dout := rfl

@[simp] theorem placeCommand_sched (w : Word) (s : State) :
    (placeCommand w s).sched = s.sched := rfl

@[simp] theorem placeCommand_tab (w : Word) (s : State) :
    (placeCommand w s).tab = s.tab := rfl

@[simp] theorem placeCommand_pend (w : Word) (s : State) :
    (placeCommand w s).pend = w := rfl

@[simp] theorem placeCommand_host (w : Word) (s : State) :
    (placeCommand w s).host = s.host := rfl

@[simp] theorem placeCommand_turns (w : Word) (s : State) :
    (placeCommand w s).turns = .engine :: s.turns := rfl

@[simp] theorem placeCommand_response (w : Word) (s : State) :
    (placeCommand w s).response = s.response := rfl

@[simp] theorem placeCommand_draws (w : Word) (s : State) :
    (placeCommand w s).draws = s.draws := rfl

/-! `placeTransaction` -/

@[simp] theorem placeTransaction_cmd (t : Transaction) (s : State) :
    (placeTransaction t s).cmd = s.cmd := rfl

@[simp] theorem placeTransaction_status (t : Transaction) (s : State) :
    (placeTransaction t s).status = s.status := rfl

@[simp] theorem placeTransaction_din (t : Transaction) (s : State) :
    (placeTransaction t s).din = s.din := rfl

@[simp] theorem placeTransaction_dout (t : Transaction) (s : State) :
    (placeTransaction t s).dout = s.dout := rfl

@[simp] theorem placeTransaction_sched (t : Transaction) (s : State) :
    (placeTransaction t s).sched = s.sched := rfl

@[simp] theorem placeTransaction_tab (t : Transaction) (s : State) :
    (placeTransaction t s).tab = s.tab := rfl

@[simp] theorem placeTransaction_pend (t : Transaction) (s : State) :
    (placeTransaction t s).pend = s.pend := rfl

@[simp] theorem placeTransaction_host (t : Transaction) (s : State) :
    (placeTransaction t s).host = .access t :: s.host := rfl

@[simp] theorem placeTransaction_turns (t : Transaction) (s : State) :
    (placeTransaction t s).turns = .host :: s.turns := rfl

@[simp] theorem placeTransaction_response (t : Transaction) (s : State) :
    (placeTransaction t s).response = s.response := rfl

@[simp] theorem placeTransaction_draws (t : Transaction) (s : State) :
    (placeTransaction t s).draws = s.draws := rfl

/-! Reset -/

@[simp] theorem Status.reset_busy : Status.reset.busy = false := rfl

@[simp] theorem Status.reset_dv : Status.reset.dv = false := rfl

@[simp] theorem Status.reset_ksv : Status.reset.ksv = false := rfl

@[simp] theorem Status.reset_err : Status.reset.err = 0 := rfl

@[simp] theorem Status.reset_outw : Status.reset.outw = 0 := rfl

@[simp] theorem Status.reset_errIdx : Status.reset.errIdx = 0 := rfl

@[simp] theorem Status.reset_errKind : Status.reset.errKind = 0 := rfl

@[simp] theorem Status.reset_lastOp : Status.reset.lastOp = 0 := rfl

@[simp] theorem State.reset_cmd : State.reset.cmd = 0 := rfl

@[simp] theorem State.reset_status : State.reset.status = Status.reset := rfl

@[simp] theorem State.reset_din : State.reset.din = 0 := rfl

@[simp] theorem State.reset_dout : State.reset.dout = 0 := rfl

@[simp] theorem State.reset_sched : State.reset.sched = Schedule.reset := rfl

@[simp] theorem State.reset_tab : State.reset.tab = Vector.replicate 64 0 := rfl

@[simp] theorem State.reset_pend : State.reset.pend = 0 := rfl

@[simp] theorem State.reset_host : State.reset.host = [] := rfl

@[simp] theorem State.reset_turns : State.reset.turns = [] := rfl

@[simp] theorem State.reset_response : State.reset.response = none := rfl

@[simp] theorem State.reset_draws : State.reset.draws = 0 := rfl

end Sys2Proof.Machine
end

