-- ==== Sys2Proof/Laws/Ops.lean ====
section
/-!
SUPPORT. One lemma per shared operation, saying once everything it can do.
-/

namespace Sys2Proof.Machine

/-! ### The permutation primitive -/

/-- R100 by bits: output bit `i`, counted from the most significant, is the source bit the table names. -/
theorem permute_getLsbD {w : Nat} (T : List Nat) (v : BitVec w) (i : Nat) (h : i < T.length) :
    (permute T v).getLsbD (T.length - 1 - i) = v.getLsbD (w - T[i]) := by
  induction T generalizing i with
  | nil => simp at h
  | cons p T ih =>
    rw [permute, BitVec.getLsbD_cons]
    cases i with
    | zero => simp [desBit]
    | succ i =>
      have hi : i < T.length := by simpa using h
      have e : (p :: T).length - 1 - (i + 1) = T.length - 1 - i := by simp; omega
      rw [e, if_neg (by omega), ih i hi]
      simp

/-- R12: a BitBlock in a register has zeros at its width and above. -/
theorem zext64_getLsbD_of_ge {w : Nat} (v : BitVec w) (i : Nat) (h : w ≤ i) :
    (zext64 v).getLsbD i = false := by
  simp only [zext64, BitVec.getLsbD_setWidth, BitVec.getLsbD_of_ge v i h, Bool.and_false]

/-- A BitBlock of at most 64 bits keeps its bits in a register. -/
theorem zext64_getLsbD {w : Nat} (hw : w ≤ 64) (v : BitVec w) (i : Nat) :
    (zext64 v).getLsbD i = v.getLsbD i := by
  simp only [zext64, BitVec.getLsbD_setWidth]
  by_cases h : i < w
  · simp [show i < 64 by omega]
  · simp [BitVec.getLsbD_of_ge v i (by omega)]

/-! ### PERM's operands -/

theorem tableOperand_length (tlen : Entry) (s : State) (h : tlen.toNat ≤ 64) :
    (tableOperand tlen s).length = tlen.toNat := by
  simp [tableOperand, h]

theorem tableOperand_getElem (tlen : Entry) (s : State) (i : Nat)
    (h : i < (tableOperand tlen s).length) (h64 : i < 64) :
    (tableOperand tlen s)[i] = s.tab[i].toNat := by
  simp [tableOperand]

/-- What the operand checks can answer (R179): the first failing check in the order TLEN, SRCW, entries. -/
theorem permCheck_cases (srcw tlen : Entry) (s : State) :
    (widthInRange tlen = false ∧ permCheck srcw tlen s = some (0, 1)) ∨
    (widthInRange tlen = true ∧ widthInRange srcw = false ∧ permCheck srcw tlen s = some (0, 2)) ∨
    (widthInRange tlen = true ∧ widthInRange srcw = true ∧
      ∃ i, firstBadEntry srcw.toNat (tableOperand tlen s) = some i ∧
        permCheck srcw tlen s = some (BitVec.ofNat 6 i, 0)) ∨
    (widthInRange tlen = true ∧ widthInRange srcw = true ∧
      firstBadEntry srcw.toNat (tableOperand tlen s) = none ∧ permCheck srcw tlen s = none) := by
  unfold permCheck
  cases ht : widthInRange tlen
  · simp
  · cases hs : widthInRange srcw
    · simp
    · cases hb : firstBadEntry srcw.toNat (tableOperand tlen s) <;> simp

/-! ### The register index space -/

/-- R62: an index names the register whose index it is, and a register has one index. -/
theorem regOfIndex_eq_some_iff (idx : RegIndex) (r : Reg) :
    regOfIndex idx = some r ↔ idx = indexOfReg r := by
  constructor
  · intro h
    unfold regOfIndex at h
    simp only at h
    split_ifs at h <;> cases h <;>
      first
      | (apply BitVec.eq_of_toNat_eq; assumption)
      | (apply BitVec.eq_of_toNat_eq; simp only [indexOfReg, BitVec.toNat_ofNat]; omega)
  · rintro rfl
    cases r with
    | cmd => rfl
    | status => rfl
    | din => rfl
    | dout => rfl
    | k i => revert i; decide
    | c i => revert i; decide
    | d i => revert i; decide
    | tab j => revert j; decide

@[simp] theorem regOfIndex_indexOfReg (r : Reg) : regOfIndex (indexOfReg r) = some r :=
  (regOfIndex_eq_some_iff _ r).mpr rfl

/-- Everything a host read can do (R64): it answers a response, counts at most one draw, and changes nothing else. -/
theorem hostRead_cases (idx : RegIndex) (s : State) :
    (∃ v, hostRead idx s = respond v s) ∨
    (s.status.busy = true ∧ ∃ v, hostRead idx s = respond v (countDraw s)) := by
  unfold hostRead
  split
  · exact .inl ⟨_, rfl⟩
  · split
    · split
      · exact .inr ⟨‹_›, _, rfl⟩
      · exact .inl ⟨_, rfl⟩
    · exact .inl ⟨_, rfl⟩

/-- A host read changes no register (R69). -/
theorem hostRead_keeps (idx : RegIndex) (s : State) :
    (hostRead idx s).cmd = s.cmd ∧ (hostRead idx s).status = s.status ∧ (hostRead idx s).din = s.din ∧
    (hostRead idx s).dout = s.dout ∧ (hostRead idx s).sched = s.sched ∧ (hostRead idx s).tab = s.tab ∧
    (hostRead idx s).pend = s.pend ∧ (hostRead idx s).host = s.host ∧ (hostRead idx s).turns = s.turns := by
  obtain ⟨v, h⟩ | ⟨-, v, h⟩ := hostRead_cases idx s <;> simp [h]

/-- Everything a host write can do (R65): an issue, a store of DIN or of a TAB entry, nothing, or the model's fault. -/
theorem hostWrite_cases (idx : RegIndex) (v : Word) (s : State) :
    (idx = indexOfReg .cmd ∧ s.status.busy = false ∧ hostWrite idx v s = .next (issue v s)) ∨
    (idx = indexOfReg .din ∧ s.status.busy = false ∧ hostWrite idx v s = .next (writeDin v s)) ∨
    (∃ j, idx = indexOfReg (.tab j) ∧ s.status.busy = false ∧ hostWrite idx v s = .next (writeTab j v s)) ∨
    ((∀ r, regOfIndex idx = some r → writeGuarded r = false) ∧ hostWrite idx v s = .next s) ∨
    (s.status.busy = true ∧ (∃ r, regOfIndex idx = some r ∧ writeGuarded r = true) ∧
      hostWrite idx v s = .fault (.hostWriteWhileBusy idx)) := by
  unfold hostWrite
  cases hr : regOfIndex idx with
  | none => simp
  | some r =>
    have hi := (regOfIndex_eq_some_iff idx r).mp hr
    subst hi
    cases hb : s.status.busy
    · cases r with
      | cmd => exact .inl ⟨rfl, rfl, by simp [storeRegister]⟩
      | din => exact .inr (.inl ⟨rfl, rfl, by simp [storeRegister]⟩)
      | tab j => exact .inr (.inr (.inl ⟨j, rfl, rfl, by simp [storeRegister]⟩))
      | status => simp [writeGuarded, storeRegister]
      | dout => simp [writeGuarded, storeRegister]
      | k i => simp [writeGuarded, storeRegister]
      | c i => simp [writeGuarded, storeRegister]
      | d i => simp [writeGuarded, storeRegister]
    · cases r <;> simp [writeGuarded, storeRegister]

/-! ### Rotation and the schedule -/

theorem rotl28_toNat_le (x : Half) (r : Nat) : (rotl28 x r).toNat < 2 ^ 28 := (rotl28 x r).isLt

/-- R129 and R130: the halves of a permuted key recombine to it. -/
theorem recombine_halves (k0 : PermutedKey) : recombine (highHalf k0) (lowHalf k0) = k0 := by
  apply BitVec.eq_of_getLsbD_eq
  intro i hi
  simp only [recombine, highHalf, lowHalf, BitVec.getLsbD_append, BitVec.getLsbD_extractLsb']
  by_cases h : i < 28
  · simp [h]
  · simp [h, show i - 28 < 28 by omega, show 28 + (i - 28) = i by omega]

theorem generateSchedule_k0 (key : Word) : (generateSchedule key).k0 = permutedChoice1 key := rfl

theorem generateSchedule_c (key : Word) (i : Fin 17) :
    (generateSchedule key).c[i] = halfAfter (highHalf (permutedChoice1 key)) i.val := by
  simp [generateSchedule]

theorem generateSchedule_d (key : Word) (i : Fin 17) :
    (generateSchedule key).d[i] = halfAfter (lowHalf (permutedChoice1 key)) i.val := by
  simp [generateSchedule]

theorem generateSchedule_k (key : Word) (i : Fin 16) :
    (generateSchedule key).k[i] =
      subkeyAfter (highHalf (permutedChoice1 key)) (lowHalf (permutedChoice1 key)) (i.val + 1) := by
  simp [generateSchedule]

/-- The reset value of the schedule file is the schedule of the key 0 (R41, R133). -/
theorem generateSchedule_zero : generateSchedule 0 = Schedule.reset := by decide +kernel

end Sys2Proof.Machine
end

