-- ==== Sys2Proof/Laws/PerInstr.lean ====
section
/-!
SUPPORT. The facts that are stated for every constructor of Instr, one lemma each.
-/

namespace Sys2Proof.Laws.OpField

/-- The field that names the operation (R80, R82): the OP field of a command word, DIR of a transaction. For ILLEGAL it
says only that the word is kept, since ILLEGAL has no OP of its own. -/
def Statement : Instr → Prop
  | .nop => encode .nop = .command 0x0#64
  | .perm srcw tlen => ∃ w, encode (.perm srcw tlen) = .command w ∧ opField w = 0x1#4
  | .pc1 => ∃ w, encode .pc1 = .command w ∧ opField w = 0x2#4
  | .pc2 => ∃ w, encode .pc2 = .command w ∧ opField w = 0x3#4
  | .ksgen => ∃ w, encode .ksgen = .command w ∧ opField w = 0x4#4
  | .ip => ∃ w, encode .ip = .command w ∧ opField w = 0x5#4
  | .illegal w => encode (.illegal w) = .command w
  | .rd idx => ∃ t, encode (.rd idx) = .transaction t ∧ t.getLsbD 72 = false
  | .wr idx data => ∃ t, encode (.wr idx data) = .transaction t ∧ t.getLsbD 72 = true

theorem nop : Statement .nop := rfl

theorem perm (srcw tlen : Entry) : Statement (.perm srcw tlen) := by
  refine ⟨_, rfl, ?_⟩
  apply BitVec.eq_of_getLsbD_eq
  intro i hi
  have : i = 0 ∨ i = 1 ∨ i = 2 ∨ i = 3 := by omega
  obtain rfl | rfl | rfl | rfl := this <;> simp [opField, permWord]

theorem pc1 : Statement .pc1 := ⟨_, rfl, by decide⟩

theorem pc2 : Statement .pc2 := ⟨_, rfl, by decide⟩

theorem ksgen : Statement .ksgen := ⟨_, rfl, by decide⟩

theorem ip : Statement .ip := ⟨_, rfl, by decide⟩

theorem illegal (w : Word) : Statement (.illegal w) := rfl

theorem rd (idx : RegIndex) : Statement (.rd idx) := by
  refine ⟨_, rfl, ?_⟩
  simp only [BitVec.getLsbD_append]
  simp

theorem wr (idx : RegIndex) (data : Word) : Statement (.wr idx data) := by
  refine ⟨_, rfl, ?_⟩
  simp only [BitVec.getLsbD_append]
  simp

end Sys2Proof.Laws.OpField
end

