-- ==== Sys2Proof/Laws/Step.lean ====
section
/-!
SUPPORT. What `exec` and `step` can do, said once.
-/

namespace Sys2Proof.Machine

/-- Everything a command's completion can do: clear the error, fail a PERM, write a result that fits its width, write a
schedule, or record an illegal command; each with the common writes (R160). -/
theorem exec_command_cases (i : Instr) (s : State) (h : i.isCommand = true) :
    exec i s = .next (complete (writeSuccess s)) ∨
    (∃ idx kind, (kind ≠ 3 ∧ (idx ≠ 0 → kind = 0)) ∧ exec i s = .next (complete (failPerm idx kind s))) ∨
    (∃ w : BitVec 7, ∃ r : Word, w ≠ 0 ∧ w.toNat ≤ 64 ∧ (∀ b, w.toNat ≤ b → r.getLsbD b = false) ∧
      exec i s = .next (complete (writeResult w r s))) ∨
    (i = .ksgen ∧ exec i s = .next (complete (writeSchedule (generateSchedule s.din) s))) ∨
    exec i s = .next (complete (raiseError 4 0 0 s)) := by
  cases i with
  | nop => exact .inl rfl
  | perm srcw tlen =>
    simp only [exec, execPerm]
    obtain ⟨-, e⟩ | ⟨-, -, e⟩ | ⟨-, -, i, -, e⟩ | ⟨ht, -, -, e⟩ := permCheck_cases srcw tlen s <;> rw [e]
    · exact .inr (.inl ⟨_, _, by decide, rfl⟩)
    · exact .inr (.inl ⟨_, _, by decide, rfl⟩)
    · exact .inr (.inl ⟨_, _, ⟨by decide, fun _ => rfl⟩, rfl⟩)
    · simp only [widthInRange, Bool.and_eq_true, decide_eq_true_eq] at ht
      refine .inr (.inr (.inl ⟨tlen, _, ?_, ht.2, fun b hb => ?_, rfl⟩))
      · rintro rfl
        simp at ht
      · exact zext64_getLsbD_of_ge _ _ (by rw [tableOperand_length _ _ ht.2]; exact hb)
  | pc1 => exact .inr (.inr (.inl ⟨56, _, by decide, by decide, fun b hb => zext64_getLsbD_of_ge _ _ hb, rfl⟩))
  | pc2 => exact .inr (.inr (.inl ⟨48, _, by decide, by decide, fun b hb => zext64_getLsbD_of_ge _ _ hb, rfl⟩))
  | ksgen =>
    refine .inr (.inr (.inr (.inl ⟨rfl, ?_⟩)))
    simp [exec, execKsgen, sourceOperand]
  | ip =>
    exact .inr (.inr (.inl ⟨64, _, by decide, by decide, fun b hb => BitVec.getLsbD_of_ge _ _ hb, rfl⟩))
  | illegal w => exact .inr (.inr (.inr (.inr rfl)))
  | rd idx => cases h
  | wr idx v => cases h

/-- Every command word decodes to a command (R86). -/
theorem decodeCommand_isCommand (w : Word) : (decodeCommand w).isCommand = true := by
  unfold decodeCommand
  split_ifs <;> rfl

/-- A host transaction decodes to a read or a write (R80). -/
theorem decodeTransaction_cases (t : Transaction) :
    (∃ idx, decodeTransaction t = .rd idx) ∨ (∃ idx v, decodeTransaction t = .wr idx v) := by
  unfold decodeTransaction
  split_ifs
  · exact .inr ⟨_, _, rfl⟩
  · exact .inl ⟨_, rfl⟩

/-- Everything a step can do: the platform resets; the engine completes the pending command or, with none, does nothing;
the host has nothing left, polls, reads or writes. -/
theorem step_cases (s : State) :
    (mover s = .reset ∧ step s = .next (applyReset (popTurn s))) ∨
    (mover s = .engine ∧ s.status.busy = true ∧ step s = exec (decodeCommand s.pend) (popTurn s)) ∨
    (mover s = .engine ∧ s.status.busy = false ∧ step s = .next (popTurn s)) ∨
    (mover s = .host ∧ s.host = [] ∧ step s = .next (popTurn s)) ∨
    (mover s = .host ∧ (∃ ops, s.host = .wait :: ops) ∧
      (step s = .next (hostRead 0x01#8 (popTurn s)) ∨
        step s = .next (popHost (hostRead 0x01#8 (popTurn s))))) ∨
    (mover s = .host ∧ ∃ t ops, s.host = .access t :: ops ∧
      ((∃ idx, decodeTransaction t = .rd idx ∧ step s = .next (hostRead idx (popHost (popTurn s)))) ∨
       (∃ idx v, decodeTransaction t = .wr idx v ∧ step s = hostWrite idx v (popHost (popTurn s))))) := by
  unfold step takeTurn
  cases hm : mover s with
  | reset => simp
  | engine =>
    cases hb : s.status.busy <;> simp [engineTurn, hb]
  | host =>
    cases hh : s.host with
    | nil => simp [hostTurn, hh]
    | cons op ops =>
      cases op with
      | wait =>
        simp only [hostTurn, popTurn_host, hh, pollTurn, exec, execRd]
        split_ifs <;> simp
      | access t =>
        simp only [hostTurn, popTurn_host, hh]
        obtain ⟨idx, e⟩ | ⟨idx, v, e⟩ := decodeTransaction_cases t <;> simp [e, exec, execRd, execWr]

end Sys2Proof.Machine
end

