-- ==== Sys2Proof/Tests/Slice0.lean ====
section
/-!
SUPPORT. The model's own tests: ill-formed terms, words written out from the spec's encodings, single steps with the
expected values of spec/95_test_vectors.md, and for each statement with hypotheses a state that meets them.
-/

namespace Sys2Proof.Tests

open Sys2Proof.Machine

/-! ### Small states -/

/-- An idle machine with this DIN. -/
def idle (din : Word) : State := writeDin din State.reset

/-- The machine after the host has issued this command word on this DIN. -/
def pending (w din : Word) : State := issue w (idle din)

/-- TAB from entry `j` on, written by the host. -/
def loadTab (j : Nat) : List Nat → State → State
  | [], s => s
  | e :: es, s => loadTab (j + 1) es (writeTab (Fin.ofNat 64 j) (BitVec.ofNat 64 e) s)

/-- A machine with this table, this DIN and this PERM pending. -/
def permState (table : List Nat) (w din : Word) : State := issue w (loadTab 0 table (idle din))

/-- The result is a next state with this property. -/
def nextWith (o : Result) (p : State → Bool) : Bool :=
  match o with
  | .next t => p t
  | .fault _ => false
  | .refused _ => false

/-- The result is this fault. -/
def faultIs (o : Result) (f : Fault) : Bool :=
  match o with
  | .next _ => false
  | .fault g => g == f
  | .refused _ => false

/-- DOUT and the STATUS word of a state. -/
def shows (dout status : Word) (t : State) : Bool := t.dout == dout && statusWord t.status == status

/-! ### Well-formedness: an ill-formed term for each check -/

theorem test_illegal_refuses_nop_word : ¬ WellFormed (.illegal 0x0#64) := by decide
theorem test_illegal_refuses_perm_word : ¬ WellFormed (.illegal 0x80801#64) := by decide
theorem test_illegal_refuses_ksgen_word : ¬ WellFormed (.illegal 0x4#64) := by decide
theorem test_illegal_admits_reserved_op : WellFormed (.illegal 0x6#64) := by decide
theorem test_ldtab_refuses_no_entries : (AsmLine.ldtab 0 []).wellFormed = false := by decide
theorem test_ldtab_refuses_past_tab63 : (AsmLine.ldtab 63 [1, 2]).wellFormed = false := by decide

/-! ### Decoding: words written out from R80 to R86 -/

/-- R86: only OP 0 with every other bit 0. -/
theorem test_decode_nop : decodeCommand 0b0#64 = .nop := by decide
/-- R81: TLEN 48 in 22:16, SRCW 32 in 14:8, OP 1 (95 P6). -/
theorem test_decode_perm : decodeCommand 0b0110000_0_0100000_0000_0001#64 = .perm 32 48 := by decide
theorem test_decode_pc1 : decodeCommand 0b0010#64 = .pc1 := by decide
theorem test_decode_pc2 : decodeCommand 0b0011#64 = .pc2 := by decide
theorem test_decode_ksgen : decodeCommand 0b0100#64 = .ksgen := by decide
theorem test_decode_ip : decodeCommand 0b0101#64 = .ip := by decide
/-- R88: OP 15; PERM with bit 7, bit 15 or bit 23 set. -/
theorem test_decode_illegal :
    [0xF#64, 0x81#64, 0x8001#64, 0x800001#64].all (fun w => decodeCommand w == .illegal w) = true := by decide
/-- R80: DIR 0, IDX 0x21, DATA ignored. -/
theorem test_decode_rd : decodeTransaction (0b0#1 ++ 0b00100001#8 ++ 0xFFFF#64) = .rd 0x21#8 := by decide
/-- R80: DIR 1, IDX 0x85, DATA. -/
theorem test_decode_wr : decodeTransaction (0b1#1 ++ 0b10000101#8 ++ 0xC1#64) = .wr 0x85#8 0xC1#64 := by decide
/-- The table's numbering: 64-bit rows are command words, 73-bit rows transactions in ten bytes. -/
theorem test_decode_table_words :
    decodeTableWord 64 0x4 = some .ksgen ∧ decodeTableWord 80 (0x103 * 2 ^ 64 + 7) = some (.wr 0x03 7) ∧
    decodeTableWord 64 (2 ^ 64) = none ∧ decodeTableWord 80 (2 ^ 73) = none := by decide
/-- R92: `PERM 8, 8` assembles to 1:00:0000000000080801. -/
theorem test_assemble_perm :
    assemble (.perm 8 8) = [.access 0x1000000000000080801#73] := by decide
/-- 95 PR3: LDTAB's first and last write. -/
theorem test_assemble_ldtab :
    (assemble (.ldtab 0 [8, 7, 6, 9, 4, 3, 2, 1]))[0]? = some (.access 0x1800000000000000008#73) ∧
    (assemble (.ldtab 0 [8, 7, 6, 9, 4, 3, 2, 1]))[7]? = some (.access 0x1870000000000000001#73) := by decide

/-! ### One step of each instruction, with the values of 95_test_vectors.md -/

/-- N1: NOP clears the error of P13. -/
theorem test_nop_clears_error :
    nextWith (step (issue 0x0 (raiseError 1 3 0 State.reset))) (shows 0 0) = true := by decide

/-- P1: bit reversal of a byte. -/
theorem test_perm_reverses_a_byte :
    nextWith (step (permState [8, 7, 6, 5, 4, 3, 2, 1] 0x80801 0x01)) (shows 0x80 0x1000802) = true := by
  decide +kernel

/-- P6: the E table, repeated entries, 48 outputs from 32 bits. -/
theorem test_perm_with_repeated_entries :
    nextWith (step (permState
      ([32, 1, 2, 3, 4, 5, 4, 5, 6, 7, 8, 9, 8, 9, 10, 11, 12, 13, 12, 13, 14, 15, 16, 17] ++
       [16, 17, 18, 19, 20, 21, 20, 21, 22, 23, 24, 25, 24, 25, 26, 27, 28, 29, 28, 29, 30, 31, 32, 1])
      0x302001 0xF0AAF0AA)) (shows 0x00007A15557A1555 0x1003002) = true := by
  decide +kernel

/-- P9, P10, P10b, P13, P14: the first failing check in the order of R179. -/
theorem test_perm_first_failing_check :
    nextWith (step (permState [1, 1, 1, 1, 1, 1, 1, 1] 0x801 0)) (shows 0 0x1400010) = true ∧
    nextWith (step (permState [1, 1, 1, 1, 1, 1, 1, 1] 0x80001 0)) (shows 0 0x1800010) = true ∧
    nextWith (step (permState [] 0x1 0)) (shows 0 0x1400010) = true ∧
    nextWith (step (permState [8, 7, 6, 9, 4, 0, 2, 1] 0x80801 0)) (shows 0 0x1030010) = true ∧
    nextWith (step (permState [] 0x404001 0)) (shows 0 0x1000010) = true := by
  decide +kernel

/-- T1 and T9: the golden key, and key bit 64, which PC1 drops. -/
theorem test_pc1 :
    nextWith (step (pending 0x2 0x133457799BBCDFF1)) (shows 0x00F0CCAAF556678F 0x2003802) = true ∧
    nextWith (step (pending 0x2 0x1)) (shows 0 0x2003802) = true := by
  decide +kernel

/-- T4 to T6: DIN[63:56] ignored; positions 1 and 56. -/
theorem test_pc2 :
    nextWith (step (pending 0x3 0xFFE19955FAACCF1E)) (shows 0x00001B02EFFC7072 0x3003002) = true ∧
    nextWith (step (pending 0x3 0x0080000000000000)) (shows 0x0000080000000000 0x3003002) = true ∧
    nextWith (step (pending 0x3 0x1)) (shows 0x0000000000000100 0x3003002) = true := by
  decide +kernel

/-- K1: rows 0, 1, 9 and 16 of the golden key's schedule. -/
theorem test_ksgen_golden_key :
    nextWith (step (pending 0x4 0x133457799BBCDFF1)) (fun t => shows 0 0x4000004 t &&
      t.sched.k0 == 0xF0CCAAF556678F && t.sched.k[0] == 0x1B02EFFC7072 && t.sched.c[1] == 0xE19955F &&
      t.sched.k[8] == 0xE0DBEBEDE781 && t.sched.c[9] == 0x557F866 && t.sched.d[9] == 0x3C7AAB3 &&
      t.sched.k[15] == 0xCB3D8B0E17F5 && t.sched.c[16] == 0xF0CCAAF && t.sched.d[16] == 0x556678F) = true := by
  decide +kernel

/-- K6: the 28-bit wrap in round 5, and the subkeys the bit vanishes from. -/
theorem test_ksgen_wraps_at_28_bits :
    nextWith (step (pending 0x4 0x8000000000000000)) (fun t =>
      t.sched.c[4] == 0x4000000 && t.sched.c[5] == 0x0000001 && t.sched.k[7] == 0 &&
      t.sched.k[14] == 0 && t.sched.k[8] == 0x002000000000) = true := by
  decide +kernel

/-- I1, I4, I6: the golden block, DES bit 1, and the low byte. -/
theorem test_ip :
    nextWith (step (pending 0x5 0x0123456789ABCDEF)) (shows 0xCC00CCFFF0AAF0AA 0x5004002) = true ∧
    nextWith (step (pending 0x5 0x8000000000000000)) (shows 0x0000000001000000 0x5004002) = true ∧
    nextWith (step (pending 0x5 0xFF)) (shows 0x8080808080808080 0x5004002) = true := by
  decide +kernel

/-- N3 and N4: KSGEN with SRCW = 1 makes no schedule; a PERM with bit 63 set keeps DOUT, DV and OUTW. -/
theorem test_illegal :
    nextWith (step (pending 0x104 0x133457799BBCDFF1)) (fun t => shows 0 0x4000040 t && t.sched.k[0] == 0) = true ∧
    nextWith (step (issue 0x8000000000000001 (writeResult 8 0x80 State.reset))) (shows 0x80 0x1000842) = true := by
  decide +kernel

/-- H2 and H11: a reserved index reads 0; DIN reads as stored while busy. -/
theorem test_rd :
    responseOf 0x04#8 State.reset = some 0 ∧ responseOf 0x02#8 (pending 0x4 5) = some 5 := by
  decide +kernel

/-- H10: STATUS while busy is a draw with bit 0 = 1, whatever the free value is. -/
theorem test_rd_status_while_busy (w din : Word) :
    responseOf 0x01#8 (pending w din) = some (Config.freeWord 0 ||| 1#64) := rfl

/-- H5 and H8: TAB keeps 7 bits; a write of STATUS is ignored while busy. -/
theorem test_wr_tab_and_status :
    nextWith (exec (.wr 0x85 0xFFFFFFFFFFFFFFC1) State.reset) (fun t => t.tab[5] == 0x41) = true ∧
    nextWith (exec (.wr 0x01 0) (pending 0x4 0)) (fun t => t.status.busy) = true := by
  decide +kernel

/-- H7: a write of DIN while busy is the fault. -/
theorem test_wr_din_while_busy_faults :
    faultIs (exec (.wr 0x02 5) (pending 0x4 0)) (.hostWriteWhileBusy 0x02) = true := by decide

/-- PR5: the two interleavings of a KSGEN and a write of DIN; in one the write faults, in the other the engine is first. -/
theorem test_interleavings_of_a_busy_write :
    faultIs (step { pending 0x4 0 with host := assemble (.wr (.named .din) 5), turns := [.host] })
      (.hostWriteWhileBusy 0x02) = true ∧
    nextWith (step { pending 0x4 0 with host := assemble (.wr (.named .din) 5), turns := [.engine] })
      (fun t => t.status.ksv && t.host == assemble (.wr (.named .din) 5)) = true := by
  decide +kernel

/-- Z2: reset abandons the pending KSGEN. -/
theorem test_reset_abandons_the_command :
    nextWith (step { pending 0x4 0x133457799BBCDFF1 with turns := [.reset] })
      (fun t => t == State.reset) = true := by
  decide +kernel

/-- Q1 to Q9. -/
theorem test_rotation :
    rotl28 0x8000000 1 = 0x0000001 ∧ rotl28 0x8000000 2 = 0x0000002 ∧ rotl28 0xC000000 1 = 0x8000001 ∧
    rotl28 0xC000000 2 = 0x0000003 ∧ rotl28 0x4000000 2 = 0x0000001 ∧ rotl28 0xFFFFFFF 2 = 0xFFFFFFF ∧
    rotl28 0x0000001 27 = 0x8000000 ∧ rotl28 0x0123456 0 = 0x0123456 ∧ rotl28 0xF0CCAAF 1 = 0xE19955F ∧
    rotr28 0x8000000 27 = 0x0000001 ∧ rotr28 0xE19955F 1 = 0xF0CCAAF := by decide

/-- The word placed where the machine takes it is what the next step runs. -/
theorem test_placed_words_run :
    nextWith (step (State.reset.withFetchWord 64 0x5)) (shows 0 0x5004002) = true ∧
    nextWith (step (State.reset.withFetchWord 80 (0x102 * 2 ^ 64 + 7))) (fun t => t.din == 7) = true := by
  decide +kernel

/-! ### A state for the hypotheses of each statement -/

theorem test_witness_StepRunsPendingCommand :
    (pending 0x4 1).status.busy = true ∧ (pending 0x4 1).turns = [] ∧
    { pending 0x4 1 with turns := [Turn.engine, .host] }.turns = .engine :: [.host] := by decide

theorem test_witness_StepRunsHostAccess :
    { idle 0 with host := assemble (.rd (.named .din)), turns := [Turn.host] }.host =
      .access 0x0020000000000000000#73 :: [] ∧ (idle 0).status.busy = false ∧ (idle 0).turns = [] := by decide

theorem test_witness_WaitPollsStatus :
    { pending 0x4 1 with host := [HostOp.wait], turns := [Turn.host] }.host = .wait :: [] ∧
    { pending 0x4 1 with host := [HostOp.wait], turns := [Turn.host] }.status.busy = true ∧
    { idle 1 with host := [HostOp.wait], turns := [Turn.host] }.status.busy = false ∧
    { idle 1 with host := [HostOp.wait], turns := [Turn.host] }.turns = .host :: [] := by decide

theorem test_witness_NothingMovesWithoutWork :
    (idle 3).status.busy = false ∧ { idle 3 with turns := [Turn.engine] }.turns = .engine :: [] ∧
    { idle 3 with turns := [Turn.host] }.host = [] ∧ RunEnded (idle 3) ∧ (idle 3).turns = [] := by decide

theorem test_witness_ResetZeroesEveryRegister :
    mover { pending 0x4 1 with turns := [Turn.reset, .engine] } = .reset := by decide

theorem test_witness_EngineCompletesInOneStep :
    (pending 0xF 1).status.busy = true ∧ mover (pending 0xF 1) = .engine := by decide

theorem test_witness_EncodedInstructionsDecodeBack :
    WellFormed (.perm 127 0) ∧ WellFormed (.illegal 0x8000000000000001#64) ∧ WellFormed (.wr 0xFF 5) := by decide

theorem test_witness_DecodedWordsEncodeBack :
    (0x1FFFFFFFFFFFFFFFFFF#73).getLsbD 72 = true ∧ (0x0FFFFFFFFFFFFFFFFFF#73).getLsbD 72 = false := by decide

theorem test_witness_IllegalWordsAreTheThreeKinds :
    decodeCommand 0x10#64 = .illegal 0x10#64 ∧ (pending 0x10 0).status.busy = true ∧
    decodeCommand 0x0#64 = .nop := by decide

theorem test_witness_OutOfRangePermDecodesAsPerm :
    (pending 0x1 0).status.busy = true ∧ 64 < (65 : Entry).toNat ∧ (0 : Entry).toNat < 1 ∧
    decodeCommand 0x6#64 = .illegal 0x6#64 := by decide

theorem test_witness_AssembledLinesIssueTheirCommands :
    (idle 0).status.busy = false ∧ (idle 0).turns = [] ∧
    { idle 0 with host := assemble (.perm 8 8) }.host = assemble (.perm 8 8) ++ [] ∧
    0 < [(1 : Word)].length ∧ (63 : Fin 64).val + [(1 : Word)].length ≤ 64 := by decide

theorem test_witness_NopClearsTheError :
    (pending 0x0 0).status.busy = true ∧ (pending 0x0 0).pend = 0 ∧
    (Instr.ip).isCommand = true ∧ Instr.ip ≠ .nop ∧
    nextWith (exec .ip (pending 0x5 0)) (fun t => t.status.err == 0) = true := by decide +kernel

theorem test_witness_IllegalRecordsIllegalCommand :
    (pending 0x104 0).status.busy = true ∧ (pending 0x104 0).pend = 0x104 ∧
    decodeCommand 0x104#64 = .illegal 0x104#64 ∧ 6 ≤ ((0xFFFFFFFFFFFFFFF6#64).extractLsb' 0 4).toNat := by decide

theorem test_witness_PermuteSelectsTheNamedBits :
    1 < [3, 1].length ∧ 1 ≤ [3, 1][1] ∧ [3, 1][0] ≤ 3 := by decide

theorem test_witness_IdentityTableIsIdentity :
    (permState [1, 2, 3] 0x30301 5).status.busy = true ∧ 1 ≤ (3 : Entry).toNat ∧ (3 : Entry).toNat ≤ 64 ∧
    ∀ j : Fin 64, j.val < (3 : Entry).toNat → (permState [1, 2, 3] 0x30301 5).tab[j].toNat = j.val + 1 := by
  decide +kernel

theorem test_witness_PermWritesThePermutation :
    (permState [1, 1, 1] 0x30101 1).status.busy = true ∧
    ∀ j : Fin 64, j.val < (3 : Entry).toNat → 1 ≤ (permState [1, 1, 1] 0x30101 1).tab[j].toNat ∧
      (permState [1, 1, 1] 0x30101 1).tab[j].toNat ≤ (1 : Entry).toNat := by
  decide +kernel

theorem test_witness_PermFailsAtTheFirstBadCheck :
    (permState [8, 9] 0x20801 1).status.busy = true ∧ (0 : Entry).toNat < 1 ∧ 64 < (65 : Entry).toNat ∧
    (8 : Entry).toNat < (permState [8, 9] 0x20801 1).tab[(1 : Fin 64)].toNat ∧
    (∀ i : Fin 64, i.val < (1 : Fin 64).val → 1 ≤ (permState [8, 9] 0x20801 1).tab[i].toNat ∧
      (permState [8, 9] 0x20801 1).tab[i].toNat ≤ (8 : Entry).toNat) ∧
    (∀ a b, Instr.nop ≠ .perm a b) ∧ nextWith (exec .nop (pending 0x0 0)) (fun _ => true) = true := by
  refine ⟨by decide, by decide, by decide, by decide +kernel, by decide +kernel, by simp, by decide⟩

theorem test_witness_PermIgnoresBitsAboveTheWidth :
    (pending 0x80801 0x1B4).status.busy = true ∧
    ∀ b, b < (8 : Entry).toNat → (pending 0x80801 0x1B4).din.getLsbD b = (0xB4#64).getLsbD b := by decide

theorem test_witness_FixedTablesHaveTheirShape :
    Instr.ip ∈ [Instr.pc1, .pc2, .ksgen, .ip] ∧
    nextWith (exec .ip (pending 0x5 0)) (fun _ => true) = true := by decide

theorem test_witness_RotationScheduleByRound :
    ((16 = 1 ∨ 16 = 2 ∨ 16 = 9 ∨ 16 = 16)) ∧ 1 ≤ 15 ∧ 15 ≤ 16 ∧ 15 ≠ 1 ∧ 15 ≠ 2 ∧ 15 ≠ 9 ∧ 15 ≠ 16 := by decide

theorem test_witness_KsgenWritesTheSchedule :
    (pending 0x4 0x133457799BBCDFF1).status.busy = true ∧
    (pending 0x4 0x133457799BBCDFF1).din = 0x133457799BBCDFF1#64 ∧ (pending 0x4 0).din = 0 ∧
    (pending 0x4 0x0101010101010101).din = 0x0101010101010101#64 ∧
    (pending 0x4 0xFFFFFFFFFFFFFFFF).din = 0xFFFFFFFFFFFFFFFF#64 ∧
    (pending 0x4 0x8000000000000000).din = 0x8000000000000000#64 := by decide

theorem test_witness_KsgenDependsOnTheKeyAlone :
    (pending 0x4 7).status.busy = true ∧
    (issue 0x4 (writeResult 8 1 (idle 7))).status.busy = true ∧
    (pending 0x4 7).din = (issue 0x4 (writeResult 8 1 (idle 7))).din := by decide

theorem test_witness_ParityBitsAreIgnored :
    (pending 0x4 0).status.busy = true ∧ AgreeOffParity (pending 0x4 0).din 0x0101010101010101#64 := by
  decide +kernel

theorem test_witness_SubkeysDependOn48Bits :
    ∀ p ∈ List.range' 1 56, p ∉ [9, 18, 22, 25, 35, 38, 43, 54] →
      (0#56).getLsbD (56 - p) = (0x00800000000000#56).getLsbD (56 - p) := by decide

theorem test_witness_Pc1WritesThePermutedKey :
    (pending 0x2 0x133457799BBCDFF1).status.busy = true ∧
    (pending 0x2 0x133457799BBCDFF1).din = 0x133457799BBCDFF1#64 ∧
    AgreeOffParity (pending 0x2 0x1).din 0#64 := by decide +kernel

theorem test_witness_Pc2WritesTheSubkey :
    (pending 0x3 0x00E19955FAACCF1E).status.busy = true ∧
    (pending 0x3 0x00E19955FAACCF1E).din = 0x00E19955FAACCF1E#64 ∧
    (pending 0x3 0x00E19955FAACCF1E).din =
      ((generateSchedule 0x133457799BBCDFF1).c[1] ++ (generateSchedule 0x133457799BBCDFF1).d[1]).setWidth 64 ∧
    ∀ p ∈ List.range' 1 56, (pending 0x3 0x00E19955FAACCF1E).din.getLsbD (56 - p) =
      (0xFFE19955FAACCF1E#64).getLsbD (56 - p) := by decide +kernel

theorem test_witness_IpWritesThePermutedBlock :
    (pending 0x5 0x8000000000000000).status.busy = true ∧
    (pending 0x5 0x8000000000000000).din = 0x8000000000000000#64 ∧ (pending 0x5 1).din = 0x1#64 ∧
    (pending 0x5 0xFF).din = 0xFF#64 ∧ (pending 0x5 0x0123456789ABCDEF).din = 0x0123456789ABCDEF#64 ∧
    nextWith (exec .ip { pending 0x5 1 with din := 2#64 }) (fun _ => true) = true := by decide

/-- For KsgenAndIpAreIndependent, StatusWordHasItsFields, ReadAnswersTheRegister, WriteStoresTheRegister and
WrittenValueReadsBack: an idle machine. -/
theorem test_witness_idle_statements : (idle 9).status.busy = false ∧ (idle 9).turns = [] := by decide

/-- For the same and for ReadWhileBusyIsADraw, WriteWhileBusyFaults and ReservedAndReadOnlyWritesAreIgnored: a busy
machine. -/
theorem test_witness_busy_statements : (pending 0x4 9).status.busy = true := by decide

/-- The ends of the reserved ranges (R62). -/
theorem test_witness_reserved_indices :
    ∀ idx ∈ [0x04#8, 0x1F#8, 0x31#8, 0x3F#8, 0x51#8, 0x5F#8, 0x71#8, 0x7F#8, 0xC0#8, 0xFF#8],
      ReservedIndex idx ∧ ¬ ReadOnlyIndex idx ∧ ¬ GuardedIndex idx := by decide

/-- The ends of the read-only ranges (R62). -/
theorem test_witness_read_only_indices :
    ∀ idx ∈ [0x01#8, 0x03#8, 0x20#8, 0x30#8, 0x40#8, 0x50#8, 0x60#8, 0x70#8],
      ReadOnlyIndex idx ∧ ¬ ReservedIndex idx ∧ ¬ GuardedIndex idx := by decide

/-- The ends of the writable ranges (R62). -/
theorem test_witness_guarded_indices :
    ∀ idx ∈ [0x00#8, 0x02#8, 0x80#8, 0xBF#8],
      GuardedIndex idx ∧ ¬ ReservedIndex idx ∧ ¬ ReadOnlyIndex idx := by decide

theorem test_witness_ReadsHaveNoSideEffect :
    (idle 9).status.busy = false ∧ (0x02#8 : RegIndex) ≠ 0x00#8 ∧
    nextWith (exec (.wr 0x02 5) (idle 9)) (fun t => t.din == 5) = true ∧
    (∀ idx ∈ [0x01#8, 0x7F#8, 0xC0#8], ¬ (0x80 ≤ idx.toNat ∧ idx.toNat ≤ 0xBF) ∧
      nextWith (exec (.wr idx 5) (idle 9)) (fun _ => true) = true) ∧
    (0xBF#8).toNat ≠ 0x80 + (62 : Fin 64).val ∧ (0x80#8).toNat ≠ 0x80 + (1 : Fin 64).val ∧
    nextWith (exec (.wr 0xBF 5) (idle 9)) (fun t => t.tab[63] == 5) = true ∧
    nextWith (exec (.wr 0x80 5) (idle 9)) (fun t => t.tab[0] == 5) = true := by decide +kernel

theorem test_witness_IssueAcceptsEveryWord :
    (idle 9).status.busy = false ∧ (idle 9).turns = [] ∧ (pending 0x4 9).status.busy = true ∧
    decodeCommand 0xFFFFFFFFFFFFFFFF#64 = .illegal 0xFFFFFFFFFFFFFFFF#64 := by decide

/-- For EveryStepKeepsTheInvariant: a machine with a KSGEN pending meets the invariant, and steps. -/
theorem test_witness_EveryStepKeepsTheInvariant :
    Inv (pending 0x4 9) ∧ ∃ t, step (pending 0x4 9) = .next t := by
  refine ⟨⟨fun i _ => ?_, by decide, by decide, ⟨⟨0, ?_⟩, fun _ => rfl⟩, rfl⟩, _, rfl⟩
  · simp [pending, idle]
  · exact generateSchedule_zero.symm

/-- For the statements about every step (OnlyKsgenAndResetChangeTheSchedule, BusyIsSetByIssueAndClearedByCompletion,
HostAndEngineWriteTheirOwnRegisters, OnlyTheListedErrorsAreWritten): a completing KSGEN, an issue, a failing PERM, and
writes of DIN and TAB. -/
theorem test_witness_step_statements :
    nextWith (step (pending 0x4 9)) (fun t => t.sched != (pending 0x4 9).sched && !t.status.busy) = true ∧
    mover (pending 0x4 9) = .engine ∧ (pending 0x4 9).pend = 0x4 ∧
    nextWith (step { idle 9 with host := assemble .ksgen }) (fun t => t.status.busy && t.cmd == 0x4) = true ∧
    mover { idle 9 with host := assemble .ksgen } = .host ∧
    nextWith (step (pending 0x1 9)) (fun t => t.status.err == 1) = true ∧
    nextWith (step { idle 9 with host := assemble (.wr (.named .din) 5) }) (fun t => t.din == 5) = true ∧
    nextWith (step { idle 9 with host := assemble (.wr (.named (.tab 63)) 7) }) (fun t => t.tab[63] == 7) = true ∧
    mover { pending 0x4 9 with turns := [Turn.reset] } = .reset := by
  decide +kernel

theorem test_witness_NothingChangesWhileBusy :
    (pending 0x4 9).status.busy = true ∧
    nextWith (step { pending 0x4 9 with host := assemble (.rd (.named .din)), turns := [Turn.host] })
      (fun t => t.status.busy) = true := by decide +kernel

/-- For OnlyBusyWritesStopTheMachine: a step that faults, and one that does not. -/
theorem test_witness_OnlyBusyWritesStopTheMachine :
    faultIs (step { pending 0x4 0 with host := assemble (.wr (.named (.tab 63)) 5), turns := [.host] })
      (.hostWriteWhileBusy 0xBF) = true ∧
    nextWith (step { pending 0x4 0 with host := assemble (.wr (.named .dout) 5), turns := [.host] })
      (fun t => t.status.busy) = true := by decide +kernel

theorem test_witness_WaitLoopsEnd :
    { pending 0x4 9 with host := [HostOp.wait], turns := [Turn.host, .host] }.host = [.wait] := by decide

end Sys2Proof.Tests
end

section
/-!
PROOFS. What one step does to the registers, said once per mover, and from it what sets and clears BUSY (R25) and what
writes the schedule file (R40).
-/

namespace Sys2Proof.Machine

/-! ### The pending word and the STATUS word -/

/-- R86: the word 4 alone is KSGEN. -/
theorem decodeCommand_eq_ksgen_iff (w : Word) : decodeCommand w = .ksgen ↔ w = 0x4#64 := by
  constructor
  · intro h
    unfold decodeCommand at h
    split_ifs at h
    assumption
  · rintro rfl
    decide

/-- R24, R25: bit 0 of the STATUS word is BUSY. -/
@[simp] theorem statusWord_getElem_zero (st : Status) : (statusWord st)[0] = st.busy :=
  (BitVec.getLsbD_append (i := 0)).trans (by simp)

/-- R64, R195: a read of STATUS answers the STATUS word, or while BUSY = 1 a draw with bit 0 set. -/
theorem responseOf_status (s : State) :
    responseOf (indexOfReg .status) s =
      some (if s.status.busy then Config.freeWord s.draws ||| 1#64 else statusWord s.status) := by
  cases hb : s.status.busy <;>
    simp [responseOf, exec, execRd, hostRead, hb, busyRead, registerValue]

/-! ### What a command and a host write do to BUSY and the schedule file -/

/-- R160: every command completes with BUSY = 0. -/
theorem exec_command_clears_busy {i : Instr} {s t : State} (hi : i.isCommand = true)
    (h : exec i s = .next t) : t.status.busy = false := by
  obtain e | ⟨_, _, -, e⟩ | ⟨_, _, -, -, -, e⟩ | ⟨-, e⟩ | e := exec_command_cases i s hi <;>
    simp [Host.Outcome.next.inj (h.symm.trans e)]

/-- R40: a command other than KSGEN keeps the schedule file and KSV. -/
theorem exec_command_keeps_schedule {i : Instr} {s t : State} (hi : i.isCommand = true)
    (hk : i ≠ .ksgen) (h : exec i s = .next t) : ScheduleKept s t := by
  obtain e | ⟨_, _, -, e⟩ | ⟨_, _, -, -, -, e⟩ | ⟨hksgen, -⟩ | e := exec_command_cases i s hi
  case inr.inr.inr.inl => exact absurd hksgen hk
  all_goals simp [ScheduleKept, failPerm, Host.Outcome.next.inj (h.symm.trans e)]

/-- R133: KSGEN completes by writing the schedule of DIN. -/
theorem exec_ksgen (s : State) :
    exec .ksgen s = .next (complete (writeSchedule (generateSchedule s.din) s)) := by
  simp [exec, execKsgen, sourceOperand]

/-- R65, R161: a host write that does not fault issues a command while BUSY = 0, or keeps STATUS; it never changes the
schedule file. -/
theorem hostWrite_issues_or_keeps_status {idx : RegIndex} {v : Word} {s t : State}
    (h : hostWrite idx v s = .next t) :
    (idx = indexOfReg .cmd ∧ s.status.busy = false ∧ t = issue v s) ∨
    (t.status = s.status ∧ t.sched = s.sched) := by
  obtain ⟨hi, hb, e⟩ | ⟨-, -, e⟩ | ⟨_, -, -, e⟩ | ⟨-, e⟩ | ⟨-, -, e⟩ := hostWrite_cases idx v s
  · exact .inl ⟨hi, hb, Host.Outcome.next.inj (h.symm.trans e)⟩
  case inr.inr.inr.inr => cases h.symm.trans e
  all_goals simp [Host.Outcome.next.inj (h.symm.trans e)]

/-! ### The step, by what it leaves -/

/-- Everything a step that leaves a state can do: a reset; the completion of the pending command; nothing to any register
(the engine with no command, the host with nothing left, a poll or a read); or a host write. -/
theorem step_next_cases {s t : State} (h : step s = .next t) :
    (mover s = .reset ∧ t = applyReset (popTurn s)) ∨
    (mover s = .engine ∧ s.status.busy = true ∧ exec (decodeCommand s.pend) (popTurn s) = .next t) ∨
    ((mover s = .engine → s.status.busy = false) ∧ mover s ≠ .reset ∧ RegistersKept s t) ∨
    (mover s = .host ∧ ∃ tr rest idx v, s.host = .access tr :: rest ∧ decodeTransaction tr = .wr idx v ∧
      hostWrite idx v (popHost (popTurn s)) = .next t) := by
  obtain ⟨hm, e⟩ | ⟨hm, hb, e⟩ | ⟨hm, hb, e⟩ | ⟨hm, -, e⟩ | ⟨hm, -, e | e⟩ |
    ⟨hm, tr, rest, hh, ⟨idx, -, e⟩ | ⟨idx, v, hd, e⟩⟩ := step_cases s <;> rw [h] at e
  · exact .inl ⟨hm, Host.Outcome.next.inj e⟩
  · exact .inr (.inl ⟨hm, hb, e.symm⟩)
  case inr.inr.inr.inr.inr.inr => exact .inr (.inr (.inr ⟨hm, tr, rest, idx, v, hh, hd, e.symm⟩))
  all_goals
    have kept : RegistersKept s t := by
      simp [RegistersKept, Host.Outcome.next.inj e, hostRead_keeps]
    exact .inr (.inr (.inl ⟨by simp [*], by simp [hm], kept⟩))

/-! ### The obligations -/

/-- Settles O50: of the four things a step can do only a reset and a completion reach the schedule file, and of the
commands only KSGEN, which is the word 4. -/
theorem onlyKsgenAndResetChangeTheSchedule : Obligations.OnlyKsgenAndResetChangeTheSchedule := by
  intro s t h
  have isCommand := decodeCommand_isCommand s.pend
  obtain ⟨hm, rfl⟩ | ⟨hm, hb, e⟩ | ⟨hidle, hr, kept⟩ | ⟨hm, tr, rest, idx, v, -, -, e⟩ := step_next_cases h
  · exact ⟨fun _ => .inl ⟨hm, rfl⟩, by simp [hm]⟩
  · by_cases hp : s.pend = 0x4#64
    · rw [(decodeCommand_eq_ksgen_iff _).mpr hp, exec_ksgen] at e
      obtain rfl := Host.Outcome.next.inj e
      exact ⟨fun _ => .inr ⟨hm, hb, hp⟩, fun _ _ _ => ⟨rfl, rfl⟩⟩
    · have hk := mt (decodeCommand_eq_ksgen_iff s.pend).mp hp
      obtain ⟨hsched, hksv⟩ := exec_command_keeps_schedule isCommand hk e
      exact ⟨by simp [hsched, hksv], fun _ _ h4 => absurd h4 hp⟩
  · obtain ⟨-, hstatus, -, -, hsched, -, -⟩ := kept
    exact ⟨by simp [hsched, hstatus], fun hm hb => by simp [hidle hm] at hb⟩
  · refine ⟨?_, by simp [hm]⟩
    obtain ⟨-, -, rfl⟩ | ⟨hstatus, hsched⟩ := hostWrite_issues_or_keeps_status e
    · simp
    · simp [hsched, hstatus]

/-- Settles O51: the STATUS read from the two forms of its answer, the step from the four things it can do, of which
only the host's write of CMD sets BUSY and only the engine and reset clear it. -/
theorem busyIsSetByIssueAndClearedByCompletion : Obligations.BusyIsSetByIssueAndClearedByCompletion := by
  refine ⟨fun s => ⟨_, responseOf_status s, ?_⟩, rfl, fun s t h => ?_⟩
  · cases hb : s.status.busy <;> simp [hb]
  obtain ⟨hm, rfl⟩ | ⟨hm, hb, e⟩ | ⟨hidle, hr, kept⟩ | ⟨hm, tr, rest, idx, v, hh, hd, e⟩ := step_next_cases h
  · simp [hm]
  · simp [hm, hb, exec_command_clears_busy (decodeCommand_isCommand s.pend) e]
  · obtain ⟨-, hstatus, -⟩ := kept
    simp +contextual [hstatus, hidle, hr]
  · obtain ⟨rfl, hb, rfl⟩ | ⟨hstatus, -⟩ := hostWrite_issues_or_keeps_status e
    · have hbusy : s.status.busy = false := hb
      exact ⟨fun _ _ => ⟨hm, rfl, tr, rest, v, hh, hd, rfl⟩, by simp [hbusy], by simp [hm]⟩
    · simp +contextual [hstatus, hm]

end Sys2Proof.Machine
end

section
/-!
PROOFS. Host memory: what a read of an index answers, which indices a write reaches, and from it that reads have no side
effect (R69), that reserved and read-only writes are ignored (R66, R67), and how a host packs bytes into DIN (R71).
-/

namespace Sys2Proof.Machine

/-! ### The index ranges by register -/

@[simp] theorem toNat_indexOfReg_tab (j : Fin 64) : (indexOfReg (.tab j)).toNat = 0x80 + j.val := by
  simp [indexOfReg]
  omega

/-- R62, R65: the guarded indices are those of the registers a host must not write while BUSY = 1. -/
theorem guardedIndex_indexOfReg_iff (r : Reg) : GuardedIndex (indexOfReg r) ↔ writeGuarded r = true := by
  cases r with
  | cmd | status | din | dout => decide
  | k i | c i | d i | tab i =>
    simp [GuardedIndex, writeGuarded, indexOfReg]
    omega

/-- R62: an index names no register exactly when it is reserved. -/
theorem regOfIndex_eq_none_iff (idx : RegIndex) : regOfIndex idx = none ↔ ReservedIndex idx := by
  unfold regOfIndex
  simp only
  split_ifs <;> simp <;> omega

/-- R62: the reserved and the read-only ranges lie outside the guarded one. -/
theorem not_guardedIndex_of_reserved_or_readOnly {idx : RegIndex}
    (h : ReservedIndex idx ∨ ReadOnlyIndex idx) : ¬ GuardedIndex idx := by
  omega

/-! ### Reads -/

theorem exec_rd (idx : RegIndex) (s : State) : exec (.rd idx) s = .next (hostRead idx s) := rfl

theorem responseOf_eq_hostRead_response (idx : RegIndex) (s : State) :
    responseOf idx s = (hostRead idx s).response := rfl

@[simp] theorem registerValue_respond (r : Reg) (v : Word) (s : State) :
    registerValue r (respond v s) = registerValue r s := by
  cases r <;> rfl

/-- R66: a read of a reserved index answers 0, busy or not. -/
theorem hostRead_of_reserved {idx : RegIndex} (h : ReservedIndex idx) (s : State) :
    hostRead idx s = respond 0 s := by
  simp [hostRead, (regOfIndex_eq_none_iff idx).mpr h]

/-- R64, R66: with BUSY = 0 a read answers the stored value of the register, or 0 where the index names none. -/
theorem hostRead_of_idle (idx : RegIndex) {s : State} (hb : s.status.busy = false) :
    hostRead idx s = respond ((regOfIndex idx).elim 0 (registerValue · s)) s := by
  unfold hostRead
  cases regOfIndex idx <;> simp [hb]

/-- R69: with BUSY = 0 reading again answers the same, since the answer depends on registers alone. -/
theorem responseOf_hostRead_of_idle (idx : RegIndex) {s : State} (hb : s.status.busy = false) :
    responseOf idx (hostRead idx s) = (hostRead idx s).response := by
  rw [responseOf_eq_hostRead_response, hostRead_of_idle idx hb,
    hostRead_of_idle idx (by simpa using hb)]
  simp

/-! ### Writes -/

theorem exec_wr (idx : RegIndex) (v : Word) (s : State) : exec (.wr idx v) s = hostWrite idx v s := rfl

theorem writeTab_tab_of_ne {i j : Fin 64} (h : i ≠ j) (v : Word) (s : State) :
    (writeTab j v s).tab[i] = s.tab[i] := by
  have hval : j.val ≠ i.val := by omega
  simp [hval]

/-- R65: a write of an index that is not guarded changes nothing and does not fault, busy or not. -/
theorem hostWrite_of_not_guarded {idx : RegIndex} (h : ¬ GuardedIndex idx) (v : Word) (s : State) :
    hostWrite idx v s = .next s := by
  have unguarded (r : Reg) (hi : idx = indexOfReg r) : writeGuarded r ≠ true :=
    fun hg => h (hi ▸ (guardedIndex_indexOfReg_iff r).mpr hg)
  obtain ⟨hi, -⟩ | ⟨hi, -⟩ | ⟨j, hi, -⟩ | ⟨-, e⟩ | ⟨-, ⟨r, hr, hg⟩, -⟩ := hostWrite_cases idx v s
  · exact absurd rfl (unguarded .cmd hi)
  · exact absurd rfl (unguarded .din hi)
  · exact absurd rfl (unguarded (.tab j) hi)
  · exact e
  · exact absurd hg (unguarded r ((regOfIndex_eq_some_iff idx r).mp hr))

/-! ### Byte arrays -/

/-- R71: byte `i` of the array is bits 63-8i to 56-8i of the packed word. -/
theorem packBytes_extractLsb' (b : Vector (BitVec 8) 8) (i : Fin 8) :
    (packBytes b).extractLsb' (56 - 8 * i.val) 8 = b[i] := by
  unfold packBytes
  -- The width must stay a sum of eights: the library's lemmas on `++` read the two widths off it.
  fin_cases i <;>
    simp (disch := decide) [-Nat.reduceAdd, BitVec.extractLsb'_append_eq_of_le,
      BitVec.extractLsb'_append_eq_of_add_le]

/-! ### The obligations -/

/-- Settles O41: a read only responds, so with BUSY = 0 it answers the same again; of what a host write can do, only the
issue reaches more than the register named, and only the index of CMD issues. -/
theorem readsHaveNoSideEffect : Obligations.ReadsHaveNoSideEffect := by
  refine ⟨fun idx s => ?_, fun idx v s t hcmd h => ?_⟩
  · obtain ⟨cmd, status, din, dout, sched, tab, pend, host, turns⟩ := hostRead_keeps idx s
    exact ⟨hostRead idx s, exec_rd idx s, ⟨cmd, status, din, dout, sched, tab, pend⟩, host, turns,
      responseOf_hostRead_of_idle idx⟩
  rw [exec_wr] at h
  obtain ⟨hi, -⟩ | ⟨rfl, -, e⟩ | ⟨j, rfl, -, e⟩ | ⟨-, e⟩ | ⟨-, -, e⟩ := hostWrite_cases idx v s
  · exact absurd hi hcmd
  · obtain rfl := Host.Outcome.next.inj (h.symm.trans e)
    simp [HostSideKept, indexOfReg]
  · obtain rfl := Host.Outcome.next.inj (h.symm.trans e)
    have inTab : 0x80 ≤ (indexOfReg (.tab j)).toNat ∧ (indexOfReg (.tab j)).toNat ≤ 0xBF := by
      rw [toNat_indexOfReg_tab]
      omega
    have otherEntries (i : Fin 64) (hi : (indexOfReg (.tab j)).toNat ≠ 0x80 + i.val) :
        (writeTab j v s).tab[i] = s.tab[i] :=
      writeTab_tab_of_ne (by rintro rfl; simp at hi) v s
    exact ⟨rfl, rfl, rfl, rfl, rfl, ⟨rfl, rfl, rfl, rfl⟩, fun _ => rfl, fun hout => absurd inTab hout,
      otherEntries⟩
  · obtain rfl := Host.Outcome.next.inj (h.symm.trans e)
    simp [HostSideKept]
  · cases h.symm.trans e

/-- Settles O43: the reserved and the read-only indices are not guarded, and a reserved index names no register. -/
theorem reservedAndReadOnlyWritesAreIgnored : Obligations.ReservedAndReadOnlyWritesAreIgnored := by
  intro idx v s
  refine ⟨fun h => ?_, fun h => ?_⟩
  · rw [exec_wr, hostWrite_of_not_guarded (not_guardedIndex_of_reserved_or_readOnly h)]
  · rw [responseOf_eq_hostRead_response, hostRead_of_reserved h, respond_response]

/-- Settles O47: each byte by the append that places it; DES bit 1 is bit 63, the top bit of byte 0. -/
theorem byteArraysPackBigEndian : Obligations.ByteArraysPackBigEndian := by
  refine fun b => ⟨packBytes_extractLsb' b, ?_⟩
  have byte : (packBytes b).extractLsb' 56 8 = b[0] := packBytes_extractLsb' b 0
  rw [← byte, BitVec.getLsbD_extractLsb']
  rfl

end Sys2Proof.Machine
end

section
/-!
PROOFS. The decoder of command words: the patterns of R86 by the bits they fix, each outcome by its pattern, and from it
which words are ILLEGAL (R88) and that PERM is not range-checked by decode (R87).
-/

namespace Sys2Proof.Machine

/-! ### The patterns by the fields of the word -/

/-- A field has a given value when it has its bits. -/
theorem extractLsb'_eq_iff {n : Nat} (w : Word) (lo : Nat) (v : BitVec n) :
    w.extractLsb' lo n = v ↔ ∀ i, i < n → w.getLsbD (lo + i) = v.getLsbD i := by
  rw [BitVec.eq_of_getLsbD_eq_iff]
  refine forall₂_congr fun i hi => ?_
  rw [BitVec.getLsbD_extractLsb', decide_eq_true hi, Bool.true_and]

/-- R86: PERM fixes the bits 7:0, 15 and 63:23. -/
theorem permMask_getLsbD (i : Nat) (hi : i < 64) :
    permMask.getLsbD i = decide (i < 8 ∨ i = 15 ∨ 23 ≤ i) := by
  decide +revert

/-- R86: the pattern of PERM asks bit 0 to be 1 and every other bit it fixes to be 0. -/
theorem and_permMask_eq_one_iff_bits (w : Word) :
    w &&& permMask = 1#64 ↔
      ∀ i, i < 64 → (i < 8 ∨ i = 15 ∨ 23 ≤ i) → w.getLsbD i = decide (i = 0) := by
  rw [BitVec.eq_of_getLsbD_eq_iff]
  refine forall₂_congr fun i hi => ?_
  rw [BitVec.getLsbD_and, permMask_getLsbD i hi, BitVec.getLsbD_one]
  by_cases hfixed : i < 8 ∨ i = 15 ∨ 23 ≤ i
  · simp [hfixed]
  · have : i ≠ 0 := by omega
    simp [hfixed, this]

/-- R81, R86: the pattern of PERM by fields: OP is 1 and the reserved bits 7:4, 15 and 63:23 are 0. -/
theorem and_permMask_eq_one_iff_fields (w : Word) :
    w &&& permMask = 1#64 ↔
      (w.extractLsb' 0 4).toNat = 1 ∧ w.extractLsb' 4 4 = 0 ∧ w.getLsbD 15 = false ∧
        w.extractLsb' 23 41 = 0 := by
  have opIsOne : (w.extractLsb' 0 4).toNat = 1 ↔ w.extractLsb' 0 4 = 1#4 := BitVec.toNat_inj (y := 1#4)
  simp only [opIsOne, and_permMask_eq_one_iff_bits, extractLsb'_eq_iff, BitVec.ofNat_eq_ofNat, BitVec.getLsbD_one,
    BitVec.getLsbD_zero]
  constructor
  · intro h
    refine ⟨fun i hi => ?_, fun i hi => ?_, h 15 (by omega) (by omega), fun i hi => ?_⟩ <;>
      rw [h _ (by omega) (by omega)] <;> simp
  · rintro ⟨op, low, bit15, high⟩ i hi hfixed
    obtain hop | ⟨hge, hlow⟩ | rfl | hhigh : i < 4 ∨ (4 ≤ i ∧ i < 8) ∨ i = 15 ∨ 23 ≤ i := by omega
    · simpa using op i hop
    · rw [← Nat.add_sub_cancel' hge, low _ (by omega)]
      simp
    · exact bit15
    · rw [← Nat.add_sub_cancel' hhigh, high _ (by omega)]
      simp

/-- R81, R82: a word is the command word of an OP alone when it has this OP and no bit of 63:4. -/
theorem eq_ofNat_iff_fields (w : Word) {op : Nat} (hop : op < 16) :
    w = BitVec.ofNat 64 op ↔ (w.extractLsb' 0 4).toNat = op ∧ w.extractLsb' 4 60 = 0 := by
  simp only [← BitVec.toNat_inj, BitVec.extractLsb'_toNat, BitVec.toNat_ofNat, BitVec.ofNat_eq_ofNat]
  omega

/-! ### The word of PERM -/

/-- R92: the PERM word has bit 0, SRCW from bit 8 on and TLEN from bit 16 on. -/
theorem permWord_getLsbD (srcw tlen : Entry) (i : Nat) (hi : i < 64) :
    (permWord srcw tlen).getLsbD i =
      (decide (i = 0) || (decide (8 ≤ i) && srcw.getLsbD (i - 8)) ||
        (decide (16 ≤ i) && tlen.getLsbD (i - 16))) := by
  simp only [permWord, BitVec.getLsbD_or, BitVec.getLsbD_shiftLeft, BitVec.getLsbD_setWidth, BitVec.getLsbD_one]
  grind

/-- R87: the PERM word of any operands meets the pattern of PERM, since the bits it fixes lie outside both. -/
theorem permWord_and_permMask (srcw tlen : Entry) : permWord srcw tlen &&& permMask = 1#64 := by
  rw [and_permMask_eq_one_iff_bits]
  intro i hi hfixed
  rw [permWord_getLsbD _ _ _ hi]
  grind

theorem srcwField_permWord (srcw tlen : Entry) : srcwField (permWord srcw tlen) = srcw := by
  refine (extractLsb'_eq_iff _ 8 srcw).mpr fun i hi => ?_
  rw [permWord_getLsbD _ _ _ (by omega)]
  have : ¬ 16 ≤ 8 + i := by omega
  simp [this]

theorem tlenField_permWord (srcw tlen : Entry) : tlenField (permWord srcw tlen) = tlen := by
  refine (extractLsb'_eq_iff _ 16 tlen).mpr fun i hi => ?_
  rw [permWord_getLsbD _ _ _ (by omega), BitVec.getLsbD_of_ge srcw _ (by omega)]
  simp

/-- R83, R84, R86: a word that meets the pattern of PERM is the PERM word of its two fields. -/
theorem permWord_of_and_permMask {w : Word} (h : w &&& permMask = 1#64) :
    permWord (srcwField w) (tlenField w) = w := by
  rw [and_permMask_eq_one_iff_bits] at h
  apply BitVec.eq_of_getLsbD_eq
  intro i hi
  rw [permWord_getLsbD _ _ _ hi, srcwField, tlenField, BitVec.getLsbD_extractLsb', BitVec.getLsbD_extractLsb']
  by_cases hfixed : i < 8 ∨ i = 15 ∨ 23 ≤ i
  · rw [h i hi hfixed]
    grind
  · grind

/-! ### Each outcome of the decoder -/

/-- R80, R86: a command word is the encoding of what it decodes to, so no bit of it is dropped. -/
theorem encode_decodeCommand (w : Word) : encode (decodeCommand w) = .command w := by
  unfold decodeCommand
  split_ifs with hnop hperm
  · rw [hnop, encode]
  · rw [encode, permWord_of_and_permMask hperm]
  all_goals simp only [encode, *]

/-- R86: an outcome of a single word is the outcome of that word alone. -/
theorem decodeCommand_eq_iff_of_encode {i : Instr} {v : Word} (hencode : encode i = .command v)
    (hdecode : decodeCommand v = i) (w : Word) : decodeCommand w = i ↔ w = v := by
  constructor
  · rintro rfl
    exact Encoded.command.inj ((encode_decodeCommand w).symm.trans hencode)
  · rintro rfl
    exact hdecode

/-- R86: PERM exactly on its pattern, with its two fields. -/
theorem decodeCommand_eq_perm_iff (w : Word) (srcw tlen : Entry) :
    decodeCommand w = .perm srcw tlen ↔
      w &&& permMask = 1#64 ∧ srcw = srcwField w ∧ tlen = tlenField w := by
  constructor
  · intro h
    unfold decodeCommand at h
    split_ifs at h with hnop hperm
    cases h
    exact ⟨hperm, rfl, rfl⟩
  · rintro ⟨hperm, rfl, rfl⟩
    have : w ≠ 0x0#64 := by
      rintro rfl
      simp at hperm
    exact (if_neg this).trans (if_pos hperm)

/-- R86: ILLEGAL exactly on the words of no pattern, with the word kept. -/
theorem decodeCommand_eq_illegal_iff (w w' : Word) :
    decodeCommand w = .illegal w' ↔ w' = w ∧
      w ≠ 0x0#64 ∧ w &&& permMask ≠ 0x1#64 ∧ w ≠ 0x2#64 ∧ w ≠ 0x3#64 ∧ w ≠ 0x4#64 ∧ w ≠ 0x5#64 := by
  constructor
  · intro h
    unfold decodeCommand at h
    split_ifs at h with hnop hperm hpc1 hpc2 hksgen hip
    cases h
    exact ⟨rfl, hnop, hperm, hpc1, hpc2, hksgen, hip⟩
  · rintro ⟨rfl, hnop, hperm, hpc1, hpc2, hksgen, hip⟩
    simp [decodeCommand, *]

/-- R88: ILLEGAL by the value of OP. -/
theorem decodeCommand_eq_illegal_iff_kinds (w : Word) :
    decodeCommand w = .illegal w ↔
      6 ≤ (w.extractLsb' 0 4).toNat ∨
      (((w.extractLsb' 0 4).toNat = 0 ∨ (w.extractLsb' 0 4).toNat = 2 ∨ (w.extractLsb' 0 4).toNat = 3 ∨
        (w.extractLsb' 0 4).toNat = 4 ∨ (w.extractLsb' 0 4).toNat = 5) ∧ w.extractLsb' 4 60 ≠ 0) ∨
      ((w.extractLsb' 0 4).toNat = 1 ∧
        (w.extractLsb' 4 4 ≠ 0 ∨ w.getLsbD 15 = true ∨ w.extractLsb' 23 41 ≠ 0)) := by
  simp (disch := decide) only [decodeCommand_eq_illegal_iff, ne_eq, true_and, and_permMask_eq_one_iff_fields,
    eq_ofNat_iff_fields w]
  generalize (w.extractLsb' 0 4).toNat = op
  obtain hreserved | rfl | hfixed :
    6 ≤ op ∨ op = 1 ∨ (op = 0 ∨ op = 2 ∨ op = 3 ∨ op = 4 ∨ op = 5) := by omega
  · omega
  · simp [imp_iff_not_or]
  · obtain rfl | rfl | rfl | rfl | rfl := hfixed <;> simp

/-- R87: decode does not range-check PERM. -/
theorem decodeCommand_permWord (srcw tlen : Entry) :
    decodeCommand (permWord srcw tlen) = .perm srcw tlen := by
  rw [decodeCommand_eq_perm_iff, srcwField_permWord, tlenField_permWord]
  exact ⟨permWord_and_permMask srcw tlen, rfl, rfl⟩

/-! ### PERM out of range -/

/-- R108: PERM records error 1 where SRCW or TLEN is out of range, whatever the state. -/
theorem exec_perm_out_of_range {srcw tlen : Entry} (h : widthInRange srcw = false ∨ widthInRange tlen = false)
    (s : State) : ∃ idx kind, exec (.perm srcw tlen) s = .next (complete (failPerm idx kind s)) := by
  simp only [exec, execPerm]
  obtain ⟨-, e⟩ | ⟨-, -, e⟩ | ⟨ht, hs, -⟩ | ⟨ht, hs, -, -⟩ := permCheck_cases srcw tlen s
  · exact ⟨0, 1, by rw [e]⟩
  · exact ⟨0, 2, by rw [e]⟩
  all_goals simp [ht, hs] at h

/-! ### The obligations -/

/-- Settles O11: PERM and ILLEGAL by their patterns, every other outcome by the one word that encodes it. -/
theorem decodeFollowsThePatterns : Obligations.DecodeFollowsThePatterns := fun w =>
  ⟨decodeCommand_eq_iff_of_encode rfl (by decide) w,
    decodeCommand_eq_perm_iff w,
    decodeCommand_eq_iff_of_encode rfl (by decide) w,
    decodeCommand_eq_iff_of_encode rfl (by decide) w,
    decodeCommand_eq_ksgen_iff w,
    decodeCommand_eq_iff_of_encode rfl (by decide) w,
    decodeCommand_eq_illegal_iff w,
    decodeCommand_isCommand w⟩

/-- Settles O12: the words of no pattern by the value of OP; an ILLEGAL completes by recording error 4. -/
theorem illegalWordsAreTheThreeKinds : Obligations.IllegalWordsAreTheThreeKinds := by
  refine ⟨decodeCommand_eq_illegal_iff_kinds, fun w s h _ => ?_, fun w => ?_⟩
  · rw [h]
    exact ⟨complete (raiseError 4 0 0 s), rfl, by simp⟩
  · exact (decodeCommand_eq_iff_of_encode rfl (by decide) w).mp

/-- Settles O13: decode asks no range of the operands, and of the checks of R179 one of the first two fails. -/
theorem outOfRangePermDecodesAsPerm : Obligations.OutOfRangePermDecodesAsPerm := by
  refine ⟨decodeCommand_permWord, fun srcw tlen s _ hrange => ?_, fun w h => ?_⟩
  · have out : widthInRange srcw = false ∨ widthInRange tlen = false := by
      simp [widthInRange]
      omega
    obtain ⟨idx, kind, e⟩ := exec_perm_out_of_range out s
    exact ⟨_, e, by simp [failPerm]⟩
  · obtain ⟨-, hnop, hperm, hpc1, hpc2, hksgen, hip⟩ := (decodeCommand_eq_illegal_iff w w).mp h
    have hone : w ≠ 0x1#64 := by
      rintro rfl
      exact hperm (by decide)
    exact ⟨hperm, by bv_omega⟩

end Sys2Proof.Machine
end

section
/-!
PROOFS. The permutation unit: the primitive on the identity table (R104), PERM's checks by the numbers they ask for
(R101, R179), what PERM completes with for each answer of the checks (R107, R108), and from it the statements about its
result and its failures.
-/

namespace Sys2Proof.Machine

/-! ### The identity table -/

/-- R104: entry `i` of the identity table is `i + 1`, which names the `i`-th bit from the most significant. -/
theorem permute_identity (n : Nat) (x : BitVec n) : (permute (List.range' 1 n) x).toNat = x.toNat := by
  have width : (List.range' 1 n).length = n := List.length_range'
  suffices (permute (List.range' 1 n) x).cast width = x by
    simpa using congrArg BitVec.toNat this
  refine BitVec.eq_of_getLsbD_eq fun b hb => ?_
  have index : n - 1 - (n - 1 - b) = b := by omega
  have position : n - (List.range' 1 n)[n - 1 - b]'(by omega) = b := by
    rw [List.getElem_range']
    omega
  simpa [index, position] using permute_getLsbD (List.range' 1 n) x (n - 1 - b) (by omega)

/-- R42, R104: the table operand is the identity table when TAB holds it. -/
theorem tableOperand_identity {n : Entry} {s : State} (h64 : n.toNat ≤ 64)
    (htab : ∀ j : Fin 64, j.val < n.toNat → s.tab[j].toNat = j.val + 1) :
    tableOperand n s = List.range' 1 n.toNat := by
  have length := tableOperand_length n s h64
  refine List.ext_getElem (by simpa using length) fun i hi _ => ?_
  rw [length] at hi
  have entry : s.tab[i].toNat = i + 1 := htab ⟨i, by omega⟩ hi
  rw [tableOperand_getElem n s i _ (by omega), List.getElem_range', entry]
  omega

/-! ### PERM's source and its checks -/

/-- R102: the source operand depends on the bits of DIN below the width alone. -/
theorem sourceOperand_congr {w : Nat} {s t : State}
    (h : ∀ b, b < w → s.din.getLsbD b = t.din.getLsbD b) : sourceOperand w s = sourceOperand w t := by
  refine BitVec.eq_of_getLsbD_eq fun b hb => ?_
  simp only [sourceOperand, BitVec.getLsbD_setWidth, h b hb]

theorem widthInRange_eq_true_iff (w : Entry) : widthInRange w = true ↔ 1 ≤ w.toNat ∧ w.toNat ≤ 64 := by
  simp [widthInRange]

theorem widthInRange_eq_false_iff (w : Entry) : widthInRange w = false ↔ w.toNat < 1 ∨ 64 < w.toNat := by
  rw [← Bool.not_eq_true, widthInRange_eq_true_iff]
  omega

/-- R107: every entry of a legal table is in range. -/
theorem firstBadEntry_eq_none_iff (srcw : Nat) (T : List Nat) :
    firstBadEntry srcw T = none ↔ ∀ p ∈ T, 1 ≤ p ∧ p ≤ srcw := by
  simp [firstBadEntry, entryInRange]

/-- R107: the least index below TLEN whose entry is out of range. -/
theorem firstBadEntry_tableOperand {srcw : Nat} {tlen : Entry} {s : State} (j : Fin 64)
    (h64 : tlen.toNat ≤ 64) (hj : j.val < tlen.toNat)
    (hbad : s.tab[j].toNat < 1 ∨ srcw < s.tab[j].toNat)
    (hgood : ∀ i : Fin 64, i.val < j.val → 1 ≤ s.tab[i].toNat ∧ s.tab[i].toNat ≤ srcw) :
    firstBadEntry srcw (tableOperand tlen s) = some j.val := by
  rw [firstBadEntry, List.findIdx?_eq_some_iff_getElem]
  refine ⟨by rwa [tableOperand_length tlen s h64], ?_, fun i hi => ?_⟩
  · rw [tableOperand_getElem tlen s j.val _ j.isLt]
    have : s.tab[j.val].toNat < 1 ∨ srcw < s.tab[j.val].toNat := hbad
    simp [entryInRange]
    omega
  · have good : 1 ≤ s.tab[i].toNat ∧ s.tab[i].toNat ≤ srcw := hgood ⟨i, by omega⟩ hi
    rw [tableOperand_getElem tlen s i _ (by omega)]
    simp [entryInRange, good]

/-- R179: TLEN is checked first. -/
theorem permCheck_of_tlen {tlen : Entry} (ht : widthInRange tlen = false) (srcw : Entry) (s : State) :
    permCheck srcw tlen s = some (0, 1) := by
  simp [permCheck, ht]

/-- R179: SRCW is checked once TLEN is legal. -/
theorem permCheck_of_srcw {srcw tlen : Entry} (ht : widthInRange tlen = true)
    (hs : widthInRange srcw = false) (s : State) : permCheck srcw tlen s = some (0, 2) := by
  simp [permCheck, ht, hs]

/-- R179: the entries are checked last. -/
theorem permCheck_of_widths {srcw tlen : Entry} (ht : widthInRange tlen = true)
    (hs : widthInRange srcw = true) (s : State) :
    permCheck srcw tlen s =
      (firstBadEntry srcw.toNat (tableOperand tlen s)).map fun i => (BitVec.ofNat 6 i, 0) := by
  simp [permCheck, ht, hs]

/-! ### PERM's completions -/

/-- R107: with every check passed PERM completes by writing the permutation. -/
theorem exec_perm_of_permCheck_none {srcw tlen : Entry} {s : State} (h : permCheck srcw tlen s = none) :
    exec (.perm srcw tlen) s = .next (complete (writeResult tlen
      (zext64 (permute (tableOperand tlen s) (sourceOperand srcw.toNat s))) s)) := by
  simp [exec, execPerm, h]

/-- R108: with a failed check PERM completes by recording it. -/
theorem exec_perm_of_permCheck_some {srcw tlen : Entry} {s : State} {idx : BitVec 6} {kind : BitVec 2}
    (h : permCheck srcw tlen s = some (idx, kind)) :
    exec (.perm srcw tlen) s = .next (complete (failPerm idx kind s)) := by
  simp [exec, execPerm, h]

/-- R108: what a failed PERM leaves, and that it leaves nothing else. -/
theorem permFailed_complete_failPerm (idx : BitVec 6) (kind : BitVec 2) (s : State) :
    PermFailed idx kind s (complete (failPerm idx kind s)) := by
  simp [PermFailed, ScheduleKept, Completed, HostRegistersKept, HostSideKept, failPerm, opField]

theorem exec_perm_fails {srcw tlen : Entry} {s : State} {idx : BitVec 6} {kind : BitVec 2}
    (h : permCheck srcw tlen s = some (idx, kind)) :
    ∃ t, exec (.perm srcw tlen) s = .next t ∧ PermFailed idx kind s t :=
  ⟨_, exec_perm_of_permCheck_some h, permFailed_complete_failPerm idx kind s⟩

/-- R172, R176: a command other than PERM records no error, or error 4. -/
theorem exec_command_err_of_ne_perm {i : Instr} {s t : State} (hi : i.isCommand = true)
    (hperm : ∀ srcw tlen, i ≠ .perm srcw tlen) (h : exec i s = .next t) :
    t.status.err = 0 ∨ t.status.err = 4 := by
  cases i with
  | nop | pc1 | pc2 | ksgen | ip =>
    obtain rfl := Host.Outcome.next.inj h
    exact .inl rfl
  | illegal w =>
    obtain rfl := Host.Outcome.next.inj h
    exact .inr rfl
  | perm srcw tlen => exact absurd rfl (hperm srcw tlen)
  | rd idx | wr idx v => cases hi

/-! ### The obligations -/

/-- Settles O18: each output bit by the entry that names it; the bound is the width of the result. -/
theorem permuteSelectsTheNamedBits : Obligations.PermuteSelectsTheNamedBits := fun _ T v =>
  ⟨fun i h _ _ => permute_getLsbD T v i h, (permute T v).isLt, zext64_getLsbD_of_ge (permute T v)⟩

/-- Settles O19: the primitive by bits; PERM's checks pass on the identity table, so its result is the source, which is
DIN masked to n bits. -/
theorem identityTableIsIdentity : Obligations.IdentityTableIsIdentity := by
  refine ⟨permute_identity, fun n s _ h1 h64 htab => ?_⟩
  have table := tableOperand_identity h64 htab
  have legal : widthInRange n = true := (widthInRange_eq_true_iff n).mpr ⟨h1, h64⟩
  have entries : firstBadEntry n.toNat (tableOperand n s) = none := by
    rw [table, firstBadEntry_eq_none_iff]
    intro p hp
    rw [List.mem_range'_1] at hp
    omega
  have check : permCheck n n s = none := by rw [permCheck_of_widths legal legal, entries, Option.map_none]
  refine ⟨_, exec_perm_of_permCheck_none check, ?_⟩
  have below : s.din.toNat % 2 ^ n.toNat < 2 ^ 64 := (Nat.mod_le _ _).trans_lt s.din.isLt
  rw [complete_dout, writeResult_dout, table, zext64, BitVec.toNat_setWidth, permute_identity,
    sourceOperand, BitVec.toNat_setWidth, Nat.mod_eq_of_lt below]

/-- Settles O21: the checks in the order of R179, each with what a failed PERM leaves; every other command records error
0 or 4. -/
theorem permFailsAtTheFirstBadCheck : Obligations.PermFailsAtTheFirstBadCheck := by
  refine ⟨fun srcw tlen s _ => ⟨fun ht => ?_, fun ht1 ht64 hs => ?_,
    fun j ht1 ht64 hs1 hs64 hj hbad hgood => ?_⟩, fun i s t hi hperm h => ?_⟩
  · exact exec_perm_fails (permCheck_of_tlen ((widthInRange_eq_false_iff tlen).mpr ht) srcw s)
  · have tlenLegal := (widthInRange_eq_true_iff tlen).mpr ⟨ht1, ht64⟩
    exact exec_perm_fails (permCheck_of_srcw tlenLegal ((widthInRange_eq_false_iff srcw).mpr hs) s)
  · have tlenLegal := (widthInRange_eq_true_iff tlen).mpr ⟨ht1, ht64⟩
    have srcwLegal := (widthInRange_eq_true_iff srcw).mpr ⟨hs1, hs64⟩
    apply exec_perm_fails
    rw [permCheck_of_widths tlenLegal srcwLegal, firstBadEntry_tableOperand j ht64 hj hbad hgood,
      Option.map_some]
  · obtain e | e := exec_command_err_of_ne_perm hi hperm h <;> simp [e]

/-- Settles O22: the checks do not read DIN, and the source operand is the same. -/
theorem permIgnoresBitsAboveTheWidth : Obligations.PermIgnoresBitsAboveTheWidth := by
  intro srcw tlen s d _ hagree
  have sameCheck : permCheck srcw tlen { s with din := d } = permCheck srcw tlen s := rfl
  have sameSource : sourceOperand srcw.toNat s = sourceOperand srcw.toNat { s with din := d } :=
    sourceOperand_congr hagree
  cases check : permCheck srcw tlen s with
  | some failure =>
    exact ⟨_, exec_perm_of_permCheck_some check, exec_perm_of_permCheck_some (sameCheck.trans check)⟩
  | none =>
    refine ⟨_, exec_perm_of_permCheck_none check, ?_⟩
    rw [exec_perm_of_permCheck_none (sameCheck.trans check), sameSource]
    rfl

end Sys2Proof.Machine
end

section
/-!
PROOFS. The key schedule: rotation within 28 bits by bits (R127, R128), the halves of a permuted key (R129, R130), the
cumulative rotation of the rounds (R126), what PC1 and PC2 select (R121, R123), and from it the completions of KSGEN,
PC1 and PC2 (R133 to R135).
-/

namespace Sys2Proof.Machine

/-! ### Rotation within 28 bits -/

theorem rotl28_zero (x : Half) : rotl28 x 0 = x := by
  simp [rotl28, BitVec.ushiftRight_eq_zero]

/-- R127: left rotation moves bit `b` to bit `(b + r) mod 28`. -/
theorem rotl28_getLsbD (x : Half) {r b : Nat} (hr : r < 28) (hb : b < 28) :
    (rotl28 x r).getLsbD ((b + r) % 28) = x.getLsbD b := by
  simp only [rotl28, BitVec.getLsbD_or, BitVec.getLsbD_shiftLeft, BitVec.getLsbD_ushiftRight]
  by_cases hwrap : b + r < 28
  · have above : x.getLsbD (28 - r + (b + r)) = false := BitVec.getLsbD_of_ge x _ (by omega)
    simp [Nat.mod_eq_of_lt hwrap, hwrap, above]
  · have wrapped : (b + r) % 28 = b + r - 28 := by omega
    have source : 28 - r + (b + r - 28) = b := by omega
    have low : b + r - 28 < r := by omega
    simp [wrapped, source, low]

/-- A half is fixed by where rotation moves its bits. -/
theorem eq_rotl28_of_bits {x y : Half} {r : Nat} (hr : r < 28)
    (h : ∀ b, b < 28 → y.getLsbD ((b + r) % 28) = x.getLsbD b) : y = rotl28 x r := by
  refine BitVec.eq_of_getLsbD_eq fun i hi => ?_
  have source : ((i + (28 - r)) % 28 + r) % 28 = i := by omega
  rw [← source, h _ (by omega), rotl28_getLsbD x hr (by omega)]

/-- Rotations add up modulo 28. -/
theorem rotl28_rotl28 (x : Half) {r q : Nat} (hr : r < 28) (hq : q < 28) :
    rotl28 (rotl28 x r) q = rotl28 x ((r + q) % 28) := by
  refine eq_rotl28_of_bits (by omega) fun b hb => ?_
  have target : (b + (r + q) % 28) % 28 = ((b + r) % 28 + q) % 28 := by omega
  rw [target, rotl28_getLsbD _ hq (by omega), rotl28_getLsbD x hr hb]

/-- R127: left rotation as the rule's formula. -/
theorem toNat_rotl28 (x : Half) (r : Nat) :
    (rotl28 x r).toNat = (x.toNat * 2 ^ r ||| x.toNat / 2 ^ (28 - r)) % 2 ^ 28 := by
  have below : x.toNat / 2 ^ (28 - r) < 2 ^ 28 := (Nat.div_le_self _ _).trans_lt x.isLt
  rw [rotl28, BitVec.toNat_or, BitVec.toNat_shiftLeft, BitVec.toNat_ushiftRight, Nat.shiftLeft_eq,
    Nat.shiftRight_eq_div_pow, Nat.or_mod_two_pow, Nat.mod_eq_of_lt below]

/-! ### The rounds -/

theorem shiftAmount_eq_one_or_two (i : Nat) : shiftAmount i = 1 ∨ shiftAmount i = 2 := by
  unfold shiftAmount
  split_ifs <;> simp

theorem halfAfter_zero (h : Half) : halfAfter h 0 = h := rfl

/-- R126: after round `i` a half is rotated by the sum of the amounts of the rounds so far. -/
theorem halfAfter_eq_rotl28 (h : Half) (i : Nat) :
    halfAfter h i = rotl28 h (((List.range i).map fun k => shiftAmount (k + 1)).sum % 28) := by
  induction i with
  | zero => exact (rotl28_zero h).symm
  | succ i ih =>
    have amount : shiftAmount (i + 1) < 28 := by
      obtain e | e := shiftAmount_eq_one_or_two (i + 1) <;> omega
    rw [halfAfter, ih, rotl28_rotl28 h (Nat.mod_lt _ (by decide)) amount, Nat.mod_add_mod]
    simp [List.range_succ]

/-- R126: the sums S[0] to S[16]. -/
theorem sum_shiftAmount (i : Fin 17) :
    ((List.range i.val).map fun k => shiftAmount (k + 1)).sum =
      [0, 1, 2, 4, 6, 8, 10, 12, 14, 15, 17, 19, 21, 23, 25, 27, 28].getD i.val 0 := by
  decide +revert

/-- R126: 16 rounds rotate by 28, which is no rotation. -/
theorem halfAfter_sixteen (h : Half) : halfAfter h 16 = h :=
  (halfAfter_eq_rotl28 h 16).trans (rotl28_zero h)

theorem generateSchedule_c_getElem (key : Word) {i : Nat} (hi : i < 17) :
    (generateSchedule key).c[i] = halfAfter (highHalf (permutedChoice1 key)) i :=
  generateSchedule_c key ⟨i, hi⟩

theorem generateSchedule_d_getElem (key : Word) {i : Nat} (hi : i < 17) :
    (generateSchedule key).d[i] = halfAfter (lowHalf (permutedChoice1 key)) i :=
  generateSchedule_d key ⟨i, hi⟩

/-- R126: for every key the last halves are the first. -/
theorem generateSchedule_last_halves (key : Word) :
    (generateSchedule key).c[16] = (generateSchedule key).c[0] ∧
      (generateSchedule key).d[16] = (generateSchedule key).d[0] := by
  simp only [generateSchedule_c_getElem, generateSchedule_d_getElem, halfAfter_sixteen, halfAfter_zero, and_self]

/-- R129: the first halves are those of K[0]. -/
theorem generateSchedule_first_halves (key : Word) :
    (generateSchedule key).c[0] = (generateSchedule key).k0.extractLsb' 28 28 ∧
      (generateSchedule key).d[0] = (generateSchedule key).k0.extractLsb' 0 28 := by
  rw [generateSchedule_c_getElem, generateSchedule_d_getElem]
  exact ⟨rfl, rfl⟩

/-- R131, step 3: each round rotates both halves, and its subkey is PC2 of the rotated halves. -/
theorem generateSchedule_round (key : Word) (i : Fin 16) :
    (generateSchedule key).c[i.val + 1] = rotl28 (generateSchedule key).c[i.val] (shiftAmount (i.val + 1)) ∧
    (generateSchedule key).d[i.val + 1] = rotl28 (generateSchedule key).d[i.val] (shiftAmount (i.val + 1)) ∧
    (generateSchedule key).k[i] =
      permutedChoice2 ((generateSchedule key).c[i.val + 1] ++ (generateSchedule key).d[i.val + 1]) := by
  simp [generateSchedule, halfAfter, subkeyAfter, recombine]

/-! ### What PC1 and PC2 select -/

/-- R100: the primitive gives the same on two values exactly when they agree at the positions the table names. -/
theorem permute_eq_permute_iff {w : Nat} (T : List Nat) (x y : BitVec w) :
    permute T x = permute T y ↔ ∀ p ∈ T, x.getLsbD (w - p) = y.getLsbD (w - p) := by
  rw [List.forall_mem_iff_getElem]
  constructor
  · intro h i hi
    rw [← permute_getLsbD T x i hi, h, permute_getLsbD T y i hi]
  · intro h
    refine BitVec.eq_of_getLsbD_eq fun b hb => ?_
    have index : T.length - 1 - (T.length - 1 - b) = b := by omega
    have hi : T.length - 1 - b < T.length := by omega
    rw [← index, permute_getLsbD T x _ hi, permute_getLsbD T y _ hi, h _ hi]

/-- R120 by bits. -/
theorem permutedChoice1_getLsbD (key : Word) {j : Nat} (hj : j < 56) :
    (permutedChoice1 key).getLsbD (55 - j) = key.getLsbD (64 - pc1Table.getD j 0) := by
  rw [List.getD_eq_getElem pc1Table 0 hj, ← permute_getLsbD pc1Table key j hj, permutedChoice1, BitVec.getLsbD_cast]
  rfl

/-- R122 by bits. -/
theorem permutedChoice2_getLsbD (cd : PermutedKey) {j : Nat} (hj : j < 48) :
    (permutedChoice2 cd).getLsbD (47 - j) = cd.getLsbD (56 - pc2Table.getD j 0) := by
  rw [List.getD_eq_getElem pc2Table 0 hj, ← permute_getLsbD pc2Table cd j hj, permutedChoice2, BitVec.getLsbD_cast]
  rfl

/-- R121: PC1 selects no parity bit. -/
theorem pc1Table_avoids_parity : ∀ p ∈ pc1Table, 64 - p < 64 ∧ (64 - p) % 8 ≠ 0 := by
  decide

/-- R123: PC2 selects the 48 positions other than the eight it drops. -/
theorem mem_pc2Table_iff (p : Nat) :
    p ∈ pc2Table ↔ 1 ≤ p ∧ p ≤ 56 ∧ p ∉ [9, 18, 22, 25, 35, 38, 43, 54] := by
  constructor
  · have selected : ∀ p ∈ pc2Table, 1 ≤ p ∧ p ≤ 56 ∧ p ∉ [9, 18, 22, 25, 35, 38, 43, 54] := by decide
    exact selected p
  · rintro ⟨h1, h56, hkept⟩
    have kept : ∀ p < 57, 1 ≤ p → p ∉ [9, 18, 22, 25, 35, 38, 43, 54] → p ∈ pc2Table := by decide
    exact kept p (by omega) h1 hkept

/-- R121: PC1 does not depend on the parity bits. -/
theorem permutedChoice1_of_agreeOffParity {a b : Word} (h : AgreeOffParity a b) :
    permutedChoice1 a = permutedChoice1 b := by
  have same : permute pc1Table a = permute pc1Table b :=
    (permute_eq_permute_iff pc1Table a b).mpr fun p hp =>
      h _ (pc1Table_avoids_parity p hp).1 (pc1Table_avoids_parity p hp).2
  rw [permutedChoice1, same, permutedChoice1]

/-- R121: no more does the schedule, which depends on PC1 of the key alone. -/
theorem generateSchedule_of_agreeOffParity {a b : Word} (h : AgreeOffParity a b) :
    generateSchedule a = generateSchedule b := by
  simp only [generateSchedule, permutedChoice1_of_agreeOffParity h]

/-- R135: DIN[55:0] has every DES bit of DIN that a 56-bit value has. -/
theorem setWidth_getLsbD_desBit {d : Word} {p : Nat} (hp : 1 ≤ p) :
    (d.setWidth 56).getLsbD (56 - p) = d.getLsbD (56 - p) := by
  have below : 56 - p < 56 := by omega
  simp [below]

/-- R123: a subkey depends on each of the 48 positions PC2 selects, and on no other. -/
theorem permutedChoice2_eq_iff (x y : PermutedKey) :
    permutedChoice2 x = permutedChoice2 y ↔
      ∀ p, 1 ≤ p → p ≤ 56 → p ∉ [9, 18, 22, 25, 35, 38, 43, 54] →
        x.getLsbD (56 - p) = y.getLsbD (56 - p) := by
  have uncast : permutedChoice2 x = permutedChoice2 y ↔ permute pc2Table x = permute pc2Table y := by
    simp only [permutedChoice2, ← BitVec.toNat_inj, BitVec.toNat_cast]
  simp only [uncast, permute_eq_permute_iff, mem_pc2Table_iff, and_imp]

/-! ### The examples of R133 -/

/-- R133: the key of all ones gives a schedule of all ones. -/
theorem generateSchedule_allOnes :
    (generateSchedule 0xFFFFFFFFFFFFFFFF#64).k0 = 0xFFFFFFFFFFFFFF#56 ∧
    (∀ i : Fin 16, (generateSchedule 0xFFFFFFFFFFFFFFFF#64).k[i] = 0xFFFFFFFFFFFF#48) ∧
    ∀ i : Fin 17, (generateSchedule 0xFFFFFFFFFFFFFFFF#64).c[i] = 0xFFFFFFF#28 ∧
      (generateSchedule 0xFFFFFFFFFFFFFFFF#64).d[i] = 0xFFFFFFF#28 := by
  decide +kernel

/-- R133: key bit 1 meets a position PC2 drops in the rounds 8 and 15. -/
theorem generateSchedule_keyBit1 :
    (generateSchedule 0x8000000000000000#64).k[7] = 0 ∧ (generateSchedule 0x8000000000000000#64).k[14] = 0 := by
  decide +kernel

/-- R133: the first rows of the golden key's schedule. -/
theorem generateSchedule_goldenKey :
    (generateSchedule 0x133457799BBCDFF1#64).k0 = 0xF0CCAAF556678F#56 ∧
    (generateSchedule 0x133457799BBCDFF1#64).c[0] = 0xF0CCAAF#28 ∧
    (generateSchedule 0x133457799BBCDFF1#64).d[0] = 0x556678F#28 ∧
    (generateSchedule 0x133457799BBCDFF1#64).k[0] = 0x1B02EFFC7072#48 := by
  decide +kernel

/-! ### The completions -/

/-- R134: PC1 completes by writing PC1 of DIN. -/
theorem exec_pc1 (s : State) :
    exec .pc1 s = .next (complete (writeResult 56 (zext64 (permutedChoice1 s.din)) s)) := by
  simp [exec, execPc1, sourceOperand]

/-- R135: PC2 completes by writing PC2 of the low 56 bits of DIN. -/
theorem exec_pc2 (s : State) :
    exec .pc2 s = .next (complete (writeResult 48 (zext64 (permutedChoice2 (s.din.setWidth 56))) s)) := rfl

/-- R107, R134, R135: the flags and the frame of a command that writes a result. -/
theorem resultWritten_complete_writeResult (width : BitVec 7) (r : Word) (s : State) :
    ResultWritten width s (complete (writeResult width r s)) := by
  simp [ResultWritten, NoError, ScheduleKept, Completed, HostRegistersKept, HostSideKept, opField]

/-- R133: the flags and the frame of KSGEN. -/
theorem complete_writeSchedule_frame (sch : Schedule) (s : State) :
    (complete (writeSchedule sch s)).status.ksv = true ∧ NoError (complete (writeSchedule sch s)) ∧
      ResultKept s (complete (writeSchedule sch s)) ∧ Completed s (complete (writeSchedule sch s)) := by
  simp [NoError, ResultKept, Completed, HostRegistersKept, HostSideKept, opField]

/-! ### The obligations -/

/-- Settles O25: the formula and the movement of the bits; bit 27 moves to bit `r - 1`, since it wraps. -/
theorem rotationWrapsAt28Bits : Obligations.RotationWrapsAt28Bits := by
  refine ⟨fun x r hr => ⟨toNat_rotl28 x r, fun b => rotl28_getLsbD x (by omega), fun h1 => ?_⟩, rotl28_zero,
    fun i _ _ => shiftAmount_eq_one_or_two i⟩
  have wrapped : r - 1 = (27 + r) % 28 := by omega
  rw [wrapped, rotl28_getLsbD x (by omega) (by omega)]

/-- Settles O26: the two rotations add up to 0 modulo 28. -/
theorem rotationRoundTrips : Obligations.RotationRoundTrips := by
  refine fun x r hr => ⟨rfl, ?_⟩
  have cancel : (r + (28 - r) % 28) % 28 = 0 := by omega
  rw [rotr28, rotl28_rotl28 x (by omega) (by omega), cancel, rotl28_zero]

/-- Settles O27: the halves by arithmetic, and each way back. -/
theorem splitAndRecombineInvert : Obligations.SplitAndRecombineInvert := by
  refine ⟨fun k0 => ⟨?_, ?_, recombine_halves k0⟩,
    fun c d => ⟨BitVec.extractLsb'_append_eq_left, BitVec.extractLsb'_append_eq_right⟩⟩
  · have below : k0.toNat / 2 ^ 28 < 2 ^ 28 := by omega
    rw [highHalf, BitVec.extractLsb'_toNat, Nat.shiftRight_eq_div_pow, Nat.mod_eq_of_lt below]
  · rw [lowHalf, BitVec.extractLsb'_toNat, Nat.shiftRight_zero]

/-- Settles O28: the sums as listed, and the halves rotated by them. -/
theorem sixteenRoundsRotateFully : Obligations.SixteenRoundsRotateFully := by
  refine ⟨sum_shiftAmount, fun key i => ?_, generateSchedule_last_halves⟩
  rw [← sum_shiftAmount i, generateSchedule_c, generateSchedule_d, generateSchedule_c_getElem,
    generateSchedule_d_getElem]
  exact ⟨halfAfter_eq_rotl28 _ i.val, halfAfter_eq_rotl28 _ i.val⟩

/-- Settles O29: the schedule of DIN by PC1, its halves and its rounds; the corner cases by evaluation, but for the key
of parity bits alone, which has the schedule of the key 0. -/
theorem ksgenWritesTheSchedule : Obligations.KsgenWritesTheSchedule := by
  refine ⟨decodeCommand_eq_ksgen_iff, fun s _ => ⟨_, exec_ksgen s, ?_⟩⟩
  obtain ⟨ksv, noError, resultKept, completed⟩ := complete_writeSchedule_frame (generateSchedule s.din) s
  obtain ⟨c0, d0⟩ := generateSchedule_first_halves s.din
  obtain ⟨c16, d16⟩ := generateSchedule_last_halves s.din
  simp only [complete_sched, writeSchedule_sched]
  refine ⟨fun j => permutedChoice1_getLsbD s.din, c0, d0, fun i => ?_, ksv, noError, resultKept, completed, c16, d16,
    ?_, ?_, ?_, ?_⟩
  · obtain ⟨c, d, k⟩ := generateSchedule_round s.din i
    refine ⟨c, d, fun j hj => ?_⟩
    rw [k, permutedChoice2_getLsbD _ hj]
  · rintro (hzero | hparity)
    · rw [hzero]
      exact generateSchedule_zero
    · have offParity : AgreeOffParity s.din 0 := by
        rw [hparity]
        decide
      rw [generateSchedule_of_agreeOffParity offParity, generateSchedule_zero]
  · intro h
    rw [h]
    exact generateSchedule_allOnes
  · intro h
    rw [h]
    exact generateSchedule_keyBit1
  · intro h
    rw [h]
    exact generateSchedule_goldenKey

/-- Settles O31: PC1 of DIN is the same, and both commands read no more of DIN than that. -/
theorem parityBitsAreIgnored : Obligations.ParityBitsAreIgnored := by
  refine ⟨by decide, fun s d _ h => ⟨⟨_, exec_ksgen s, ?_⟩, ⟨_, exec_pc1 s, ?_⟩⟩⟩
  · rw [exec_ksgen, generateSchedule_of_agreeOffParity h]
    rfl
  · rw [exec_pc1, permutedChoice1_of_agreeOffParity h]
    rfl

/-- Settles O32: the positions PC2 selects are the 48 others, and each is a bit of the subkey. -/
theorem subkeysDependOn48Bits : Obligations.SubkeysDependOn48Bits := ⟨by decide, permutedChoice2_eq_iff⟩

/-- Settles O33: the result is K[0] of the schedule of DIN. -/
theorem pc1WritesThePermutedKey : Obligations.Pc1WritesThePermutedKey := by
  refine ⟨decodeCommand_eq_iff_of_encode rfl (by decide), fun s _ => ⟨_, exec_pc1 s, fun j hj => ?_,
    zext64_getLsbD_of_ge _, resultWritten_complete_writeResult _ _ s, ⟨_, exec_ksgen s, rfl⟩,
    fun d h => ⟨_, exec_pc1 _, ?_⟩, fun h => ?_⟩⟩
  · rw [complete_dout, writeResult_dout, zext64_getLsbD (by decide), permutedChoice1_getLsbD s.din hj]
  · rw [complete_dout, complete_dout, writeResult_dout, writeResult_dout, permutedChoice1_of_agreeOffParity h]
  · rw [complete_dout, writeResult_dout, h]
    decide +kernel

/-- Settles O34: the result by bits; what PC2 depends on; and K[i] as PC2 of the halves of its round. -/
theorem pc2WritesTheSubkey : Obligations.Pc2WritesTheSubkey := by
  refine ⟨decodeCommand_eq_iff_of_encode rfl (by decide), fun s _ => ⟨_, exec_pc2 s, fun j hj => ?_,
    zext64_getLsbD_of_ge _, resultWritten_complete_writeResult _ _ s, fun d h => ⟨_, exec_pc2 _, ?_⟩,
    fun key i h => ?_, fun h => ?_⟩⟩
  · have selected : pc2Table.getD j 0 ∈ pc2Table := List.getD_eq_getElem pc2Table 0 hj ▸ List.getElem_mem hj
    obtain ⟨h1, -, -⟩ := (mem_pc2Table_iff _).mp selected
    rw [complete_dout, writeResult_dout, zext64_getLsbD (by decide), permutedChoice2_getLsbD _ hj,
      setWidth_getLsbD_desBit h1]
  · have same : permutedChoice2 (d.setWidth 56) = permutedChoice2 (s.din.setWidth 56) := by
      rw [permutedChoice2_eq_iff]
      intro p h1 h56 hkept
      rw [setWidth_getLsbD_desBit h1, setWidth_getLsbD_desBit h1, h p h1 h56 hkept]
    exact congrArg zext64 same
  · obtain ⟨-, -, k⟩ := generateSchedule_round key i
    rw [complete_dout, writeResult_dout, h, BitVec.setWidth_setWidth_of_le _ (by decide), BitVec.setWidth_eq, k]
    rfl
  · rw [complete_dout, writeResult_dout, h]
    decide +kernel

/-- Settles O23: the shapes by counting; a command other than PERM records error 0 or 4. -/
theorem fixedTablesHaveTheirShape : Obligations.FixedTablesHaveTheirShape := by
  refine ⟨by decide, by decide, by decide, fun i hi s t h => ?_⟩
  have command : i.isCommand = true ∧ ∀ srcw tlen, i ≠ .perm srcw tlen := by
    simp only [List.mem_cons, List.not_mem_nil, or_false] at hi
    obtain rfl | rfl | rfl | rfl := hi <;> simp [Instr.isCommand]
  obtain ⟨isCommand, notPerm⟩ := command
  obtain e | e := exec_command_err_of_ne_perm isCommand notPerm h <;> simp [e]

/-- Settles O24: the four listed rounds take the first branch of SHIFT, every other round the second. -/
theorem rotationScheduleByRound : Obligations.RotationScheduleByRound :=
  ⟨fun _ h => if_pos h, fun _ _ _ h1 h2 h9 h16 => if_neg (by omega)⟩

/-- Settles O30: KSGEN reads DIN alone. -/
theorem ksgenDependsOnTheKeyAlone : Obligations.KsgenDependsOnTheKeyAlone := fun s₁ s₂ _ _ hdin =>
  ⟨_, _, exec_ksgen s₁, exec_ksgen s₂, congrArg generateSchedule hdin⟩

end Sys2Proof.Machine
end

section
/-!
PROOFS. The initial permutation: which positions IP selects and by which bits (R150, R152), that it is a bijection (R151),
and from it IP's completion (R153) and its independence of KSGEN (R154).
-/

namespace Sys2Proof.Machine

/-! ### What IP selects -/

/-- R151: the entries of IP cover [1, 64]. -/
theorem mem_ipTable {p : Nat} (h1 : 1 ≤ p) (h64 : p ≤ 64) : p ∈ ipTable := by
  have covered : ∀ p < 65, 1 ≤ p → p ∈ ipTable := by decide
  exact covered p (by omega) h1

/-- R152 by bits. -/
theorem initialPermute_getLsbD (block : Word) {j : Nat} (hj : j < 64) :
    (initialPermute block).getLsbD (63 - j) = block.getLsbD (64 - ipTable.getD j 0) := by
  rw [List.getD_eq_getElem ipTable 0 hj, ← permute_getLsbD ipTable block j hj, initialPermute, BitVec.getLsbD_cast]
  rfl

/-- R151: IP loses no bit, since it selects every position. -/
theorem initialPermute_injective : Function.Injective initialPermute := by
  intro x y h
  have same : permute ipTable x = permute ipTable y := by
    simpa only [initialPermute, ← BitVec.toNat_inj, BitVec.toNat_cast] using h
  refine BitVec.eq_of_getLsbD_eq fun b hb => ?_
  have position : 64 - (64 - b) = b := by omega
  rw [← position]
  exact (permute_eq_permute_iff ipTable x y).mp same _ (mem_ipTable (by omega) (by omega))

/-- R153: a bit on its own, a byte of ones, and the golden block. -/
theorem initialPermute_examples :
    initialPermute 0x8000000000000000#64 = 0x0000000001000000#64 ∧
    initialPermute 0x0000000000000001#64 = 0x0000008000000000#64 ∧
    initialPermute 0x00000000000000FF#64 = 0x8080808080808080#64 ∧
    initialPermute 0x0123456789ABCDEF#64 = 0xCC00CCFFF0AAF0AA#64 := by
  decide +kernel

/-! ### The completions -/

/-- R153: IP completes by writing the permuted DIN. -/
theorem exec_ip (s : State) :
    exec .ip s = .next (complete (writeResult 64 (initialPermute s.din) s)) := by
  simp [exec, execIp, sourceOperand]

/-- R133, R154: KSGEN issued on `a` writes the schedule of `a` and keeps the result. -/
theorem exec_ksgen_issued (a : Word) (s : State) :
    ∃ t, exec .ksgen (issue 0x4 (writeDin a s)) = .next t ∧
      t.sched = generateSchedule a ∧ t.status.ksv = true ∧ ResultKept s t := by
  obtain ⟨ksv, -, resultKept, -⟩ := complete_writeSchedule_frame (generateSchedule a) (issue 0x4 (writeDin a s))
  exact ⟨_, exec_ksgen _, rfl, ksv, resultKept⟩

/-- R153, R154: IP issued on `b` writes the permuted `b` and keeps the schedule file. -/
theorem exec_ip_issued (b : Word) (s : State) :
    ∃ t, exec .ip (issue 0x5 (writeDin b s)) = .next t ∧
      t.dout = initialPermute b ∧ t.status.dv = true ∧ t.status.outw = 64 ∧ ScheduleKept s t := by
  obtain ⟨outw, dv, -, scheduleKept, -⟩ :=
    resultWritten_complete_writeResult 64 (initialPermute b) (issue 0x5 (writeDin b s))
  exact ⟨_, exec_ip _, rfl, dv, outw, scheduleKept⟩

/-! ### The obligations -/

/-- Settles O35: the result by bits; IP is injective, so another DIN gives another DOUT; the corner cases and the example
by evaluation. -/
theorem ipWritesThePermutedBlock : Obligations.IpWritesThePermutedBlock := by
  obtain ⟨highBit, lowBit, lowByte, golden⟩ := initialPermute_examples
  refine ⟨decodeCommand_eq_iff_of_encode rfl (by decide), fun s _ => ⟨_, exec_ip s,
    fun j => initialPermute_getLsbD s.din, resultWritten_complete_writeResult 64 _ s, fun d u h hd => ?_, ?_⟩⟩
  · obtain rfl := Host.Outcome.next.inj ((exec_ip _).symm.trans h)
    exact initialPermute_injective.ne hd
  · rw [complete_dout, writeResult_dout]
    exact ⟨fun h => h ▸ highBit, fun h => h ▸ lowBit, fun h => h ▸ lowByte, fun h => h ▸ golden⟩

/-- Settles O36: an injective map of the finite type of 64-bit values is a bijection. -/
theorem initialPermutationIsBijective : Obligations.InitialPermutationIsBijective :=
  ⟨initialPermute_injective.bijective_of_finite, by decide +kernel, by decide +kernel⟩

/-- Settles O37: whichever completes second keeps what the other wrote: KSGEN keeps the result and IP the schedule. -/
theorem ksgenAndIpAreIndependent : Obligations.KsgenAndIpAreIndependent := by
  intro s a b _
  obtain ⟨t₁, ht₁, t₁sched, t₁ksv, t₁kept⟩ := exec_ksgen_issued a s
  obtain ⟨t₂, ht₂, t₂dout, t₂dv, t₂outw, t₂kept⟩ := exec_ip_issued b t₁
  obtain ⟨u₁, hu₁, u₁dout, u₁dv, u₁outw, u₁kept⟩ := exec_ip_issued b s
  obtain ⟨u₂, hu₂, u₂sched, u₂ksv, u₂kept⟩ := exec_ksgen_issued a u₁
  exact ⟨t₁, t₂, u₁, u₂, ht₁, ht₂, hu₁, hu₂, by simp [*]⟩

end Sys2Proof.Machine
end

section
/-!
PROOFS. The control commands: what NOP and ILLEGAL complete with (R162, R163), which command can complete with ERR = 0,
and issue: what a write of CMD does, busy or not (R161), and that the engine takes up exactly the pending word (R160).
-/

namespace Sys2Proof.Machine

/-! ### The completions -/

/-- R162: NOP completes by clearing the error. -/
theorem exec_nop (s : State) : exec .nop s = .next (complete (writeSuccess s)) := rfl

/-- R163: ILLEGAL completes by recording error 4, whatever its word. -/
theorem exec_illegal (w : Word) (s : State) :
    exec (.illegal w) s = .next (complete (raiseError 4 0 0 s)) := rfl

/-- R162: the flags and the frame of NOP. -/
theorem complete_writeSuccess_frame (s : State) :
    NoError (complete (writeSuccess s)) ∧ ResultKept s (complete (writeSuccess s)) ∧
      ScheduleKept s (complete (writeSuccess s)) ∧ Completed s (complete (writeSuccess s)) := by
  simp [NoError, ResultKept, ScheduleKept, Completed, HostRegistersKept, HostSideKept, opField]

/-- R163, R173: what recording an error leaves unchanged, for any error. -/
theorem complete_raiseError_frame (code : BitVec 4) (idx : BitVec 6) (kind : BitVec 2) (s : State) :
    ResultKept s (complete (raiseError code idx kind s)) ∧
      ScheduleKept s (complete (raiseError code idx kind s)) ∧
      Completed s (complete (raiseError code idx kind s)) := by
  simp [ResultKept, ScheduleKept, Completed, HostRegistersKept, HostSideKept, opField]

/-- R162: a command other than NOP that completes with ERR = 0 has written a result or the schedule file. -/
theorem exec_command_success_cases {i : Instr} {s t : State} (hi : i.isCommand = true) (hnop : i ≠ .nop)
    (h : exec i s = .next t) (herr : t.status.err = 0) :
    (∃ width r, t = complete (writeResult width r s)) ∨
      ∃ sch, t = complete (writeSchedule sch s) := by
  cases i with
  | nop => exact absurd rfl hnop
  | perm srcw tlen =>
    cases check : permCheck srcw tlen s with
    | some failure =>
      obtain rfl := Host.Outcome.next.inj ((exec_perm_of_permCheck_some check).symm.trans h)
      simp [failPerm] at herr
    | none => exact .inl ⟨_, _, Host.Outcome.next.inj (h.symm.trans (exec_perm_of_permCheck_none check))⟩
  | pc1 => exact .inl ⟨_, _, Host.Outcome.next.inj (h.symm.trans (exec_pc1 s))⟩
  | pc2 => exact .inl ⟨_, _, Host.Outcome.next.inj (h.symm.trans (exec_pc2 s))⟩
  | ksgen => exact .inr ⟨_, Host.Outcome.next.inj (h.symm.trans (exec_ksgen s))⟩
  | ip => exact .inl ⟨_, _, Host.Outcome.next.inj (h.symm.trans (exec_ip s))⟩
  | illegal w =>
    obtain rfl := Host.Outcome.next.inj ((exec_illegal w s).symm.trans h)
    simp at herr
  | rd idx | wr idx v => cases hi

/-! ### Issue and the engine -/

/-- R65: with BUSY = 0 a write of a register's index stores the register. -/
theorem hostWrite_of_idle {s : State} (hb : s.status.busy = false) (r : Reg) (v : Word) :
    hostWrite (indexOfReg r) v s = .next (storeRegister r v s) := by
  simp [hostWrite, hb]

/-- R180: with BUSY = 1 a write of CMD, DIN or TAB is the fault, with its index. -/
theorem hostWrite_of_busy {s : State} (hb : s.status.busy = true) {r : Reg} (hg : writeGuarded r = true)
    (v : Word) : hostWrite (indexOfReg r) v s = .fault (.hostWriteWhileBusy (indexOfReg r)) := by
  simp [hostWrite, hb, hg]

/-- R161: with BUSY = 0 a write of CMD issues its value, whatever it is. -/
theorem exec_wr_cmd_of_idle {s : State} (hb : s.status.busy = false) (v : Word) :
    exec (.wr (indexOfReg .cmd) v) s = .next (issue v s) :=
  hostWrite_of_idle hb .cmd v

/-- R160: the engine completes exactly the pending word. -/
theorem engineTurn_of_busy {s : State} (hb : s.status.busy = true) :
    engineTurn s = exec (decodeCommand s.pend) s := if_pos hb

/-- R160, R198: with a command pending and no turn listed, the step is the engine's. -/
theorem step_of_busy_of_no_turns {s : State} (hb : s.status.busy = true) (hturns : s.turns = []) :
    step s = exec (decodeCommand s.pend) s := by
  have engineMoves : mover s = .engine := by simp [mover, hturns, hb]
  have noTurnUsed : s.turns.tail = s.turns := by rw [hturns, List.tail_nil]
  rw [step, takeTurn, engineMoves, popTurn, noTurnUsed]
  exact engineTurn_of_busy hb

/-! ### The obligations -/

/-- Settles O16: NOP is the word that encodes it, and only clears the error; what else completes with ERR = 0 has written
a result, which sets DV, or the schedule file, which sets KSV. -/
theorem nopClearsTheError : Obligations.NopClearsTheError := by
  refine ⟨decodeCommand_eq_iff_of_encode rfl (by decide), fun s _ => ⟨_, exec_nop s, ?_⟩,
    fun i s t hi hnop h herr => ?_⟩
  · obtain ⟨noError, resultKept, scheduleKept, completed⟩ := complete_writeSuccess_frame s
    exact ⟨noError, resultKept, scheduleKept, completed, fun hpend => by simp [hpend, opField]⟩
  · obtain ⟨width, r, rfl⟩ | ⟨sch, rfl⟩ := exec_command_success_cases hi hnop h herr
    · exact .inl rfl
    · exact .inr rfl

/-- Settles O17: recording error 4 with the frame of a completion; a reserved OP is the first of the kinds of ILLEGAL
(R88), so the step of an issued 6 is an ILLEGAL's completion. -/
theorem illegalRecordsIllegalCommand : Obligations.IllegalRecordsIllegalCommand := by
  refine ⟨fun w s _ hpend _ => ⟨_, exec_illegal w s, rfl, rfl, rfl, ?_⟩,
    fun w hop => (decodeCommand_eq_illegal_iff_kinds w).mpr (.inl hop), by decide, by decide, ?_⟩
  · obtain ⟨resultKept, scheduleKept, completed⟩ := complete_raiseError_frame 4 0 0 s
    exact ⟨resultKept, scheduleKept, completed, by simp [hpend, opField]⟩
  · have decoded : decodeCommand 0x6 = .illegal 0x6 :=
      (decodeCommand_eq_illegal_iff_kinds _).mpr (.inl (by decide))
    refine ⟨complete (raiseError 4 0 0 (issue 0x6 State.reset)), ?_, rfl, rfl⟩
    rw [step_of_busy_of_no_turns rfl rfl, issue_pend, decoded, exec_illegal]

/-- Settles O45: with BUSY = 0 the write is an issue, after which the engine completes the word issued; with BUSY = 1 CMD
is guarded. -/
theorem issueAcceptsEveryWord : Obligations.IssueAcceptsEveryWord := by
  refine ⟨fun v s hb => ?_, fun v s hb => hostWrite_of_busy (r := .cmd) hb rfl v⟩
  have completesTheWord : engineTurn (issue v s) = exec (decodeCommand v) (issue v s) :=
    engineTurn_of_busy rfl
  refine ⟨issue v s, exec_wr_cmd_of_idle hb v, rfl, rfl, rfl, rfl, completesTheWord, fun h => ?_⟩
  exact ⟨complete (raiseError 4 0 0 (issue v s)), by rw [completesTheWord, h, exec_illegal], rfl⟩

end Sys2Proof.Machine
end

section
/-!
PROOFS. The host's exception: while BUSY = 1 a write faults on exactly the indices of CMD, DIN and TAB (R180).
-/

namespace Sys2Proof.Machine

/-- R62: a guarded index is the index of a guarded register, since a reserved index is not guarded. -/
theorem exists_writeGuarded_of_guardedIndex {idx : RegIndex} (hidx : GuardedIndex idx) :
    ∃ r, idx = indexOfReg r ∧ writeGuarded r = true := by
  cases hr : regOfIndex idx with
  | none =>
    have reserved : ReservedIndex idx := (regOfIndex_eq_none_iff idx).mp hr
    exact absurd hidx (not_guardedIndex_of_reserved_or_readOnly (.inl reserved))
  | some r =>
    obtain rfl := (regOfIndex_eq_some_iff idx r).mp hr
    exact ⟨r, rfl, (guardedIndex_indexOfReg_iff r).mp hidx⟩

/-- Settles O44: a guarded index names a guarded register, whose write while BUSY = 1 is the fault; the reserved and the
read-only indices are not guarded. -/
theorem writeWhileBusyFaults : Obligations.WriteWhileBusyFaults := by
  refine fun idx v s hb => ⟨fun guarded => ?_, fun unguarded => ?_⟩
  · obtain ⟨r, rfl, hg⟩ := exists_writeGuarded_of_guardedIndex guarded
    exact hostWrite_of_busy hb hg v
  · exact hostWrite_of_not_guarded (not_guardedIndex_of_reserved_or_readOnly unguarded) v s

end Sys2Proof.Machine
end

section
/-!
PROOFS. Reset: a platform turn leaves the reset state of every register (R190), whatever command was pending (R191).
-/

namespace Sys2Proof.Machine

/-- R190: the reset of STATUS reads as the word 0. -/
@[simp] theorem statusWord_reset : statusWord Status.reset = 0 := by decide

@[simp] theorem Schedule.reset_k0 : Schedule.reset.k0 = 0 := rfl

@[simp] theorem Schedule.reset_k (i : Fin 16) : Schedule.reset.k[i] = 0 :=
  Vector.getElem_replicate i.isLt

@[simp] theorem Schedule.reset_c (i : Fin 17) : Schedule.reset.c[i] = 0 :=
  Vector.getElem_replicate i.isLt

@[simp] theorem Schedule.reset_d (i : Fin 17) : Schedule.reset.d[i] = 0 :=
  Vector.getElem_replicate i.isLt

@[simp] theorem applyReset_tab_getElem (s : State) (j : Fin 64) : (applyReset s).tab[j] = 0 :=
  Vector.getElem_replicate j.isLt

/-- R190, R191: the platform's step is a reset, with or without a command pending. -/
theorem step_of_mover_reset {s : State} (platformMoves : mover s = .reset) :
    step s = .next (applyReset (popTurn s)) := by
  rw [step, takeTurn, platformMoves]

/-- Settles O5: the step is a reset in every state, and a reset leaves 0 in each register of R20. -/
theorem resetZeroesEveryRegister : Obligations.ResetZeroesEveryRegister := by
  intro s platformMoves
  exact ⟨applyReset (popTurn s), step_of_mover_reset platformMoves, applyReset_cmd _, statusWord_reset,
    Status.reset_busy, applyReset_din _, applyReset_dout _, Schedule.reset_k0, Schedule.reset_k, Schedule.reset_c,
    Schedule.reset_d, applyReset_tab_getElem _, applyReset_pend _⟩

end Sys2Proof.Machine
end

section
/-!
PROOFS. Encoding: the host transactions by their fields (R80), the words ILLEGAL is well formed for (R88), and from it
that decoder and encoder invert each other, and that the register map names each register at one index (R62).
-/

namespace Sys2Proof.Machine

/-! ### Host transactions by their fields -/

/-- R80: DIR is bit 72, IDX bits 71:64, DATA bits 63:0. -/
theorem transaction_fields (dir : BitVec 1) (idx : RegIndex) (data : Word) :
    (dir ++ idx ++ data : Transaction).getLsbD 72 = dir.getLsbD 0 ∧
      (dir ++ idx ++ data : Transaction).extractLsb' 64 8 = idx ∧
      (dir ++ idx ++ data : Transaction).extractLsb' 0 64 = data := by
  refine ⟨?_, ?_, ?_⟩
  · simp only [BitVec.getLsbD_append]
    rfl
  all_goals
    refine BitVec.eq_of_getLsbD_eq fun i hi => ?_
    simp [-Nat.reduceAdd, hi, BitVec.getLsbD_append]

/-- R80: a transaction with DIR = 0 is a read of its index. -/
theorem decodeTransaction_of_dir_false {t : Transaction} (h : t.getLsbD 72 = false) :
    decodeTransaction t = .rd (t.extractLsb' 64 8) := by
  rw [decodeTransaction, h]
  rfl

/-- R80: a transaction with DIR = 1 is a write of its index and data. -/
theorem decodeTransaction_of_dir_true {t : Transaction} (h : t.getLsbD 72 = true) :
    decodeTransaction t = .wr (t.extractLsb' 64 8) (t.extractLsb' 0 64) :=
  if_pos h

/-- R80: the transaction of a read decodes to the read of its index. -/
theorem decodeTransaction_readTransaction (idx : RegIndex) :
    decodeTransaction (readTransaction idx) = .rd idx := by
  obtain ⟨dir, index, -⟩ := transaction_fields 0#1 idx 0#64
  exact (decodeTransaction_of_dir_false dir).trans (congrArg Instr.rd index)

/-- R80: the transaction of a write decodes to the write of its index and value. -/
theorem decodeTransaction_writeTransaction (idx : RegIndex) (v : Word) :
    decodeTransaction (writeTransaction idx v) = .wr idx v := by
  obtain ⟨dir, index, data⟩ := transaction_fields 1#1 idx v
  exact (decodeTransaction_of_dir_true dir).trans (congrArg₂ Instr.wr index data)

/-- R80: DIR, IDX and DATA are all the bits of a transaction. -/
theorem writeTransaction_of_dir_true {t : Transaction} (h : t.getLsbD 72 = true) :
    writeTransaction (t.extractLsb' 64 8) (t.extractLsb' 0 64) = t := by
  refine BitVec.eq_of_getLsbD_eq fun i hi => ?_
  simp only [writeTransaction, BitVec.getLsbD_append, BitVec.getLsbD_extractLsb']
  obtain data | index | rfl : i < 64 ∨ (64 ≤ i ∧ i < 72) ∨ i = 72 := by omega
  · simp [data]
  · have position : 64 + (i - 64) = i := by omega
    have inIndex : i - 64 < 8 := by omega
    simp [inIndex, position, not_lt.mpr index.1]
  · simp [h]

/-! ### Well-formed words -/

/-- R88: ILLEGAL is well formed for exactly the words that decode to it. -/
theorem illegalWord_eq_true_iff (w : Word) : illegalWord w = true ↔ decodeCommand w = .illegal w := by
  rw [decodeCommand_eq_illegal_iff_kinds]
  simp only [illegalWord]
  generalize (w.extractLsb' 0 4).toNat = op
  split_ifs with hreserved hone
  · simp [hreserved]
  · simp [hone, or_assoc]
  · have : op = 0 ∨ op = 2 ∨ op = 3 ∨ op = 4 ∨ op = 5 := by omega
    simp [hreserved, hone, this]

/-- R86, R88: every command word decodes to a well-formed instruction. -/
theorem wellFormed_decodeCommand (w : Word) : WellFormed (decodeCommand w) := by
  cases hd : decodeCommand w with
  | illegal w' =>
    obtain ⟨rfl, -⟩ := (decodeCommand_eq_illegal_iff w w').mp hd
    exact (illegalWord_eq_true_iff w').mpr hd
  | nop | perm srcw tlen | pc1 | pc2 | ksgen | ip | rd idx | wr idx v => rfl

/-! ### The obligations -/

/-- Settles O9: PERM by its two fields, ILLEGAL because it is well formed for the words that decode to it only, the
transactions by their fields. -/
theorem encodedInstructionsDecodeBack : Obligations.EncodedInstructionsDecodeBack := by
  intro i hwf
  cases i with
  | nop | pc1 | pc2 | ksgen | ip => decide
  | perm srcw tlen => exact decodeCommand_permWord srcw tlen
  | illegal w => exact (illegalWord_eq_true_iff w).mp hwf
  | rd idx => exact decodeTransaction_readTransaction idx
  | wr idx v => exact decodeTransaction_writeTransaction idx v

/-- Settles O10: the decoder of command words keeps every bit; a write's three fields are the whole transaction, and of a
read's only DATA is lost. -/
theorem decodedWordsEncodeBack : Obligations.DecodedWordsEncodeBack := by
  refine ⟨fun w => ⟨wellFormed_decodeCommand w, encode_decodeCommand w⟩, fun t hdir => ?_, fun t hdir => ?_⟩
  · rw [decodeTransaction_of_dir_true hdir]
    exact congrArg Encoded.transaction (writeTransaction_of_dir_true hdir)
  · have read := decodeTransaction_of_dir_false hdir
    exact ⟨read, congrArg encode read⟩

/-- Settles O14: the map is one to one (R62); no register is named exactly in the reserved ranges; the guarded ranges are
the indices of the guarded registers. -/
theorem registerMapIsOneToOne : Obligations.RegisterMapIsOneToOne := by
  refine ⟨regOfIndex_eq_some_iff, regOfIndex_eq_none_iff, fun idx => ⟨?_, fun guarded => ?_⟩⟩
  · rintro ⟨r, hr, hg⟩
    obtain rfl := (regOfIndex_eq_some_iff idx r).mp hr
    exact (guardedIndex_indexOfReg_iff r).mpr hg
  · obtain ⟨r, rfl, hg⟩ := exists_writeGuarded_of_guardedIndex guarded
    exact ⟨r, regOfIndex_indexOfReg r, hg⟩

/-- Settles O8: thirteen closed words, by evaluation of the decoder. -/
theorem wordsDecodeAsTheTableSays : Obligations.WordsDecodeAsTheTableSays := by
  unfold Obligations.WordsDecodeAsTheTableSays
  decide

end Sys2Proof.Machine
end

section
/-!
PROOFS. The agents: who moves (R198), the step of each by what it has to do (R160, R74, R92), and that every command
completes (R160).
-/

namespace Sys2Proof.Machine

/-! ### Who moves, and what its turn uses up -/

section
variable {s : State} {m : Turn} {rest : List Turn}

theorem mover_of_turns (h : s.turns = m :: rest) : mover s = m := by
  rw [mover, h]

theorem popTurn_of_turns (h : s.turns = m :: rest) : popTurn s = { s with turns := rest } := by
  rw [popTurn, h, List.tail_cons]

theorem popTurn_of_no_turns (h : s.turns = []) : popTurn s = s := by
  rw [popTurn, h, List.tail_nil, ← h]

/-- R198: past the end of the turns the host moves while no command is pending. -/
theorem mover_of_no_turns_of_idle (h : s.turns = []) (hb : s.status.busy = false) : mover s = .host := by
  rw [mover, h, hb]
  rfl

theorem popHost_of_host {op : HostOp} {ops : List HostOp} (h : s.host = op :: ops) :
    popHost s = { s with host := ops } := by
  rw [popHost, h, List.tail_cons]

end

/-! ### The step of each agent -/

section
variable {s : State}

theorem step_of_mover_engine (h : mover s = .engine) : step s = engineTurn (popTurn s) := by
  rw [step, takeTurn, h]

theorem step_of_mover_host (h : mover s = .host) : step s = hostTurn (popTurn s) := by
  rw [step, takeTurn, h]

/-- R160: the engine has no step while BUSY = 0. -/
theorem engineTurn_of_idle (h : s.status.busy = false) : engineTurn s = .next s := by
  rw [engineTurn, h]
  rfl

theorem hostTurn_of_nothing_left (h : s.host = []) : hostTurn s = .next s := by
  rw [hostTurn, h]

/-- R74: the host performs its next access. -/
theorem hostTurn_of_access {t : Transaction} {ops : List HostOp} (h : s.host = .access t :: ops) :
    hostTurn s = exec (decodeTransaction t) (popHost s) := by
  rw [hostTurn, h]

theorem hostTurn_of_wait {ops : List HostOp} (h : s.host = .wait :: ops) : hostTurn s = pollTurn s := by
  rw [hostTurn, h]

end

/-! ### Reads and polling -/

section
variable {s : State}

/-- R195: while BUSY = 1 a register that reads as a draw answers it, and uses up the free value. -/
theorem hostRead_of_draw (hb : s.status.busy = true) {r : Reg} {v : Word}
    (h : busyRead r (Config.freeWord s.draws) = some v) :
    hostRead (indexOfReg r) s = respond v (countDraw s) := by
  simp [hostRead, hb, h]

/-- R195: while BUSY = 1 a read of STATUS answers the free value with bit 0 set, and uses it up. -/
theorem hostRead_status_of_busy (hb : s.status.busy = true) :
    hostRead (indexOfReg .status) s = respond (Config.freeWord s.draws ||| 1#64) (countDraw s) :=
  hostRead_of_draw hb rfl

/-- R64: with BUSY = 0 a read answers the stored value of the register. -/
theorem hostRead_indexOfReg_of_idle (hb : s.status.busy = false) (r : Reg) :
    hostRead (indexOfReg r) s = respond (registerValue r s) s := by
  rw [hostRead_of_idle _ hb, regOfIndex_indexOfReg, Option.elim_some]

theorem responseIdle_respond (v : Word) (s : State) : responseIdle (respond v s) = !v.getLsbD 0 := rfl

/-- R92: a poll reads STATUS and goes on while bit 0 of the response is 1. -/
theorem pollTurn_eq (s : State) :
    pollTurn s = .next (if responseIdle (hostRead (indexOfReg .status) s) then
      popHost (hostRead (indexOfReg .status) s) else hostRead (indexOfReg .status) s) := rfl

theorem pollTurn_of_busy (hb : s.status.busy = true) :
    pollTurn s = .next (respond (Config.freeWord s.draws ||| 1#64) (countDraw s)) := by
  simp [pollTurn_eq, hostRead_status_of_busy hb, responseIdle_respond]

theorem pollTurn_of_idle (hb : s.status.busy = false) :
    pollTurn s = .next (popHost (respond (statusWord s.status) s)) := by
  simp [pollTurn_eq, hostRead_indexOfReg_of_idle hb, responseIdle_respond, registerValue, hb]

end

/-! ### Completion -/

/-- R160: every command completes, with the common writes and the frame of a completion. -/
theorem exec_command_completes {i : Instr} (hi : i.isCommand = true) (s : State) :
    ∃ t, exec i s = .next t ∧ Completed s t := by
  obtain e | ⟨idx, kind, -, e⟩ | ⟨width, r, -, -, -, e⟩ | ⟨-, e⟩ | e := exec_command_cases i s hi
  · obtain ⟨-, -, -, completed⟩ := complete_writeSuccess_frame s
    exact ⟨_, e, completed⟩
  · obtain ⟨-, -, -, -, -, -, -, completed⟩ := permFailed_complete_failPerm idx kind s
    exact ⟨_, e, completed⟩
  · obtain ⟨-, -, -, -, completed⟩ := resultWritten_complete_writeResult width r s
    exact ⟨_, e, completed⟩
  · obtain ⟨-, -, -, completed⟩ := complete_writeSchedule_frame (generateSchedule s.din) s
    exact ⟨_, e, completed⟩
  · obtain ⟨-, -, completed⟩ := complete_raiseError_frame 4 0 0 s
    exact ⟨_, e, completed⟩

/-- R160: with a command pending the engine's step is its completion. -/
theorem step_of_engine_of_busy {s : State} (hm : mover s = .engine) (hb : s.status.busy = true) :
    step s = exec (decodeCommand s.pend) (popTurn s) := by
  rw [step_of_mover_engine hm]
  exact engineTurn_of_busy hb

/-- R74: with an access next the host's step is its execution. -/
theorem step_of_host_of_access {s : State} {t : Transaction} {ops : List HostOp} (hm : mover s = .host)
    (hh : s.host = .access t :: ops) : step s = exec (decodeTransaction t) (popHost (popTurn s)) := by
  rw [step_of_mover_host hm]
  exact hostTurn_of_access hh

/-- R92: at a WAIT the host's step is a poll. -/
theorem step_of_host_of_wait {s : State} {ops : List HostOp} (hm : mover s = .host) (hh : s.host = .wait :: ops) :
    step s = pollTurn (popTurn s) := by
  rw [step_of_mover_host hm]
  exact hostTurn_of_wait hh

/-! ### The obligations -/

/-- Settles O1: the engine's step with its turn listed, and with no turn listed. -/
theorem stepRunsPendingCommand : Obligations.StepRunsPendingCommand := by
  refine fun s hb => ⟨fun rest hturns => ?_, step_of_busy_of_no_turns hb⟩
  rw [step_of_engine_of_busy (mover_of_turns hturns) hb, popTurn_of_turns hturns]

/-- Settles O2: the host's step with its turn listed, and with no turn listed while BUSY = 0. -/
theorem stepRunsHostAccess : Obligations.StepRunsHostAccess := by
  refine fun s t ops hhost => ⟨fun rest hturns => ?_, fun hturns hb => ?_⟩
  · rw [step_of_host_of_access (mover_of_turns hturns) hhost, popTurn_of_turns hturns]
    exact congrArg (exec (decodeTransaction t)) (popHost_of_host hhost)
  · rw [step_of_host_of_access (mover_of_no_turns_of_idle hturns hb) hhost, popTurn_of_no_turns hturns,
      popHost_of_host hhost]

/-- Settles O3: the poll with BUSY = 1, whose answer has bit 0 set, and with BUSY = 0, whose answer is STATUS. -/
theorem waitPollsStatus : Obligations.WaitPollsStatus := by
  intro s ops rest hhost hturns
  have poll : step s = pollTurn { s with turns := rest } := by
    rw [step_of_host_of_wait (mover_of_turns hturns) hhost, popTurn_of_turns hturns]
  refine ⟨fun hb => poll.trans (pollTurn_of_busy hb), fun hb => ?_⟩
  rw [poll, pollTurn_of_idle (s := { s with turns := rest }) hb]
  exact congrArg Host.Outcome.next (popHost_of_host hhost)

/-- Settles O4: an agent with nothing to do only uses its turn, and with no turn listed an ended run leaves it to the
host. -/
theorem nothingMovesWithoutWork : Obligations.NothingMovesWithoutWork := by
  refine ⟨fun s rest hb hturns => ?_, fun s rest hhost hturns => ?_, fun s ⟨hhost, hb⟩ hturns => ?_⟩
  · rw [step_of_mover_engine (mover_of_turns hturns), popTurn_of_turns hturns]
    exact engineTurn_of_idle hb
  · rw [step_of_mover_host (mover_of_turns hturns), popTurn_of_turns hturns]
    exact hostTurn_of_nothing_left hhost
  · rw [step_of_mover_host (mover_of_no_turns_of_idle hturns hb), popTurn_of_no_turns hturns]
    exact hostTurn_of_nothing_left hhost

/-- Settles O7: PEND decodes to a command, and every command completes. -/
theorem engineCompletesInOneStep : Obligations.EngineCompletesInOneStep := by
  intro s hb hm
  obtain ⟨t, e, busy, lastOp, kept, -⟩ := exec_command_completes (decodeCommand_isCommand s.pend) (popTurn s)
  exact ⟨t, (step_of_engine_of_busy hm hb).trans e, busy, lastOp, kept⟩

end Sys2Proof.Machine
end

section
/-!
PROOFS. The invariant of the machine: each operation keeps it, so every command, every host write and every step does,
and reset meets it (R23, R26, R27, R29, R30, R31, R36, R40, R171).
-/

namespace Sys2Proof.Machine

/-! ### Operations that keep the registers it speaks of -/

/-- The invariant speaks of registers only. -/
theorem Inv.of_registersKept {s t : State} (h : Inv s) (kept : RegistersKept s t) : Inv t := by
  obtain ⟨cmd, status, -, dout, sched, -, pend⟩ := kept
  obtain ⟨width, flags, errors, whole, cmdIsPend⟩ := h
  constructor
  · simpa only [DoutWithinWidth, status, dout] using width
  · simpa only [ResultFlags, status] using flags
  · simpa only [ErrorFields, status] using errors
  · simpa only [ScheduleWhole, status, sched] using whole
  · simpa only [CmdIsPend, cmd, pend] using cmdIsPend

section
variable {s : State}

/-- R160: LASTOP and BUSY are not spoken of. -/
theorem Inv.complete (h : Inv s) : Inv (complete s) :=
  ⟨h.dout_within_width, h.result_flags, h.error_fields, h.schedule_whole, h.cmd_is_pend⟩

/-- R161: an issue writes CMD and PEND alike. -/
theorem Inv.issue (h : Inv s) (v : Word) : Inv (issue v s) :=
  ⟨h.dout_within_width, h.result_flags, h.error_fields, h.schedule_whole, rfl⟩

theorem Inv.writeDin (h : Inv s) (v : Word) : Inv (writeDin v s) :=
  ⟨h.dout_within_width, h.result_flags, h.error_fields, h.schedule_whole, h.cmd_is_pend⟩

theorem Inv.writeTab (h : Inv s) (j : Fin 64) (v : Word) : Inv (writeTab j v s) :=
  ⟨h.dout_within_width, h.result_flags, h.error_fields, h.schedule_whole, h.cmd_is_pend⟩

/-! ### Operations that write them -/

/-- R28, R30, R31: no error is recorded. -/
theorem errorFields_of_noError {t : State} (h : NoError t) : ErrorFields t := by
  obtain ⟨err, errIdx, errKind⟩ := h
  simp [ErrorFields, err, errIdx, errKind]

theorem Inv.writeSuccess (h : Inv s) : Inv (writeSuccess s) :=
  ⟨h.dout_within_width, h.result_flags, errorFields_of_noError ⟨rfl, rfl, rfl⟩, h.schedule_whole, h.cmd_is_pend⟩

/-- R26, R29, R36: a result that fits its width, which is 1 to 64. -/
theorem Inv.writeResult (h : Inv s) {width : BitVec 7} {r : Word} (hpos : width ≠ 0) (h64 : width.toNat ≤ 64)
    (hfit : ∀ b, width.toNat ≤ b → r.getLsbD b = false) : Inv (writeResult width r s) :=
  ⟨hfit, ⟨iff_of_true rfl hpos, h64⟩, errorFields_of_noError ⟨rfl, rfl, rfl⟩, h.schedule_whole, h.cmd_is_pend⟩

/-- R27, R40: the whole schedule of a key, valid. -/
theorem Inv.writeSchedule (h : Inv s) (key : Word) : Inv (writeSchedule (generateSchedule key) s) :=
  ⟨h.dout_within_width, h.result_flags, errorFields_of_noError ⟨rfl, rfl, rfl⟩, ⟨⟨key, rfl⟩, nofun⟩, h.cmd_is_pend⟩

/-- R108: the result is cleared, and ERRIDX is 0 but for ERRKIND 0. -/
theorem Inv.failPerm (h : Inv s) {idx : BitVec 6} {kind : BitVec 2} (hkind : kind ≠ 3)
    (hidx : idx ≠ 0 → kind = 0) : Inv (failPerm idx kind s) :=
  ⟨fun _ _ => BitVec.getLsbD_zero, ⟨iff_of_false nofun (fun hz => hz rfl), Nat.zero_le 64⟩,
    ⟨.inr (.inl rfl), fun h1 => absurd rfl h1, hkind, fun h0 => ⟨rfl, hidx h0⟩⟩, h.schedule_whole, h.cmd_is_pend⟩

/-- R163: error 4 has ERRIDX and ERRKIND 0. -/
theorem Inv.raiseIllegal (h : Inv s) : Inv (raiseError 4 0 0 s) :=
  ⟨h.dout_within_width, h.result_flags, ⟨.inr (.inr rfl), fun _ => rfl, (by decide : (0 : BitVec 2) ≠ 3), fun h0 => absurd rfl h0⟩,
    h.schedule_whole, h.cmd_is_pend⟩

end

/-- R190: the registers after a reset, and so those of State.reset, meet the invariant: the schedule file is that of the
key 0. -/
theorem inv_applyReset (s : State) : Inv (applyReset s) :=
  ⟨fun _ _ => BitVec.getLsbD_zero, ⟨iff_of_false nofun (fun hz => hz rfl), Nat.zero_le 64⟩,
    errorFields_of_noError ⟨rfl, rfl, rfl⟩, ⟨⟨0, generateSchedule_zero.symm⟩, fun _ => rfl⟩, rfl⟩

/-! ### Commands and host writes -/

/-- Every completion keeps the invariant. -/
theorem Inv.exec_command {i : Instr} {s t : State} (h : Inv s) (hi : i.isCommand = true)
    (e : exec i s = .next t) : Inv t := by
  obtain e' | ⟨_, _, ⟨hkind, hidx⟩, e'⟩ | ⟨_, _, hpos, h64, hfit, e'⟩ | ⟨-, e'⟩ | e' := exec_command_cases i s hi <;>
    obtain rfl := Host.Outcome.next.inj (e'.symm.trans e)
  · exact h.writeSuccess.complete
  · exact (h.failPerm hkind hidx).complete
  · exact (h.writeResult hpos h64 hfit).complete
  · exact (h.writeSchedule s.din).complete
  · exact h.raiseIllegal.complete

/-- Every host write that does not fault keeps the invariant. -/
theorem Inv.hostWrite {idx : RegIndex} {v : Word} {s t : State} (h : Inv s) (e : hostWrite idx v s = .next t) :
    Inv t := by
  obtain ⟨-, -, e'⟩ | ⟨-, -, e'⟩ | ⟨j, -, -, e'⟩ | ⟨-, e'⟩ | ⟨-, -, e'⟩ := hostWrite_cases idx v s <;>
    cases e'.symm.trans e
  · exact h.issue v
  · exact h.writeDin v
  · exact h.writeTab j v
  · exact h

/-! ### The obligations -/

/-- Settles O48: a reset meets the invariant from any state; a completion and a host write keep it; any other step changes
no register. -/
theorem everyStepKeepsTheInvariant : Obligations.EveryStepKeepsTheInvariant := by
  intro s t h hstep
  have turnUsed : Inv (popTurn s) := h.of_registersKept ⟨rfl, rfl, rfl, rfl, rfl, rfl, rfl⟩
  have accessUsed : Inv (popHost (popTurn s)) := h.of_registersKept ⟨rfl, rfl, rfl, rfl, rfl, rfl, rfl⟩
  obtain ⟨-, rfl⟩ | ⟨-, -, e⟩ | ⟨-, -, kept⟩ | ⟨-, _, _, _, _, -, -, e⟩ := step_next_cases hstep
  · exact inv_applyReset (popTurn s)
  · exact turnUsed.exec_command (decodeCommand_isCommand s.pend) e
  · exact h.of_registersKept kept
  · exact accessUsed.hostWrite e

/-- Settles O49: the reset state has the registers of a reset. -/
theorem resetMeetsTheInvariant : Obligations.ResetMeetsTheInvariant := inv_applyReset State.reset

end Sys2Proof.Machine
end

section
/-!
PROOFS. Host memory by the register an index names: what a read answers while BUSY = 0 and while BUSY = 1 (R64, R66, R195),
what a write stores (R65), and what a read answers after a write (R74); the fields of the STATUS word (R24).
-/

namespace Sys2Proof.Machine

/-! ### Reads -/

section
variable {s : State}

/-- R64: with BUSY = 0 a read of an index answers the register that has it. -/
theorem responseOf_of_idle (hb : s.status.busy = false) {idx : RegIndex} {r : Reg} (h : idx = indexOfReg r) :
    responseOf idx s = some (registerValue r s) := by
  rw [h, responseOf_eq_hostRead_response, hostRead_indexOfReg_of_idle hb, respond_response]

/-- R66: a read of a reserved index answers 0, busy or not. -/
theorem responseOf_of_reserved {idx : RegIndex} (h : ReservedIndex idx) (s : State) : responseOf idx s = some 0 := by
  rw [responseOf_eq_hostRead_response, hostRead_of_reserved h, respond_response]

/-- R195: while BUSY = 1 a register that reads as stored answers its stored value. -/
theorem hostRead_of_stored (hb : s.status.busy = true) {r : Reg}
    (h : busyRead r (Config.freeWord s.draws) = none) :
    hostRead (indexOfReg r) s = respond (registerValue r s) s := by
  simp [hostRead, hb, h]

end

/-- R37, R38: the subkey after K[0] by its number among K[1..16]. -/
theorem subkeyWord_succ (sch : Schedule) (i : Fin 16) : subkeyWord sch i.succ = zext64 sch.k[i] := rfl

/-- R62: the index of K[1..16] by the subkey's number among them. -/
theorem indexOfReg_k_succ (i : Fin 16) : indexOfReg (.k i.succ) = BitVec.ofNat 8 (0x21 + i.val) := by
  rw [indexOfReg, Fin.val_succ, Nat.add_comm i.val 1, ← Nat.add_assoc]

/-- R62, R195: the indices of DOUT, K, C and D are those of registers that read as the free value while BUSY = 1. -/
theorem exists_busyRead_eq_free {idx : RegIndex}
    (h : idx = 0x03#8 ∨ (0x20 ≤ idx.toNat ∧ idx.toNat ≤ 0x30) ∨ (0x40 ≤ idx.toNat ∧ idx.toNat ≤ 0x50) ∨
      (0x60 ≤ idx.toNat ∧ idx.toNat ≤ 0x70)) :
    ∃ r, idx = indexOfReg r ∧ ∀ free, busyRead r free = some free := by
  replace h := h.imp_left (congrArg BitVec.toNat)
  cases hr : regOfIndex idx with
  | none =>
    have reserved := (regOfIndex_eq_none_iff idx).mp hr
    simp at h
    omega
  | some r =>
    obtain rfl := (regOfIndex_eq_some_iff idx r).mp hr
    cases r with
    | dout | k i | c i | d i => exact ⟨_, rfl, fun _ => rfl⟩
    | cmd | status | din => simp [indexOfReg] at h
    | tab j =>
      simp at h
      omega

/-! ### Registers after a write -/

theorem registerValue_writeDin_of_ne {r : Reg} (h : r ≠ .din) (v : Word) (s : State) :
    registerValue r (writeDin v s) = registerValue r s := by
  cases r with
  | din => exact absurd rfl h
  | cmd | status | dout | k i | c i | d i | tab i => rfl

theorem registerValue_writeTab_of_ne {r : Reg} {j : Fin 64} (h : r ≠ .tab j) (v : Word) (s : State) :
    registerValue r (writeTab j v s) = registerValue r s := by
  cases r with
  | tab i => exact congrArg zext64 (writeTab_tab_of_ne (fun e => h (congrArg Reg.tab e)) v s)
  | cmd | status | din | dout | k i | c i | d i => rfl

/-- R42: bits 6:0 are stored. -/
theorem writeTab_tab_same (j : Fin 64) (v : Word) (s : State) : (writeTab j v s).tab[j] = v.setWidth 7 := by
  simp

/-- R42, R64: a TAB entry reads as the low seven bits of the value written. -/
theorem zext64_setWidth_seven (v : Word) : zext64 (v.setWidth 7) = v &&& 0x7F#64 := by
  have mask := Nat.and_two_pow_sub_one_eq_mod v.toNat 7
  rw [zext64, ← BitVec.toNat_inj]
  simp at mask ⊢
  omega

/-- R69: an index answers as before when no register but that of another index changed. -/
theorem responseOf_eq_of_registerValue_eq {s t : State} (hs : s.status.busy = false) (ht : t.status.busy = false)
    {written : Reg} (kept : ∀ r, r ≠ written → registerValue r t = registerValue r s) {idx : RegIndex}
    (h : idx ≠ indexOfReg written) : responseOf idx t = responseOf idx s := by
  cases hr : regOfIndex idx with
  | none =>
    have reserved := (regOfIndex_eq_none_iff idx).mp hr
    rw [responseOf_of_reserved reserved, responseOf_of_reserved reserved]
  | some r =>
    obtain rfl := (regOfIndex_eq_some_iff idx r).mp hr
    rw [responseOf_of_idle ht rfl, responseOf_of_idle hs rfl, kept r (fun e => h (congrArg indexOfReg e))]

/-! ### The STATUS word -/

/-- R24, R33: the fields of the STATUS word at their bits, and its reserved bits 0. -/
theorem statusWord_fields (st : Status) :
    (statusWord st).getLsbD 0 = st.busy ∧ (statusWord st).getLsbD 1 = st.dv ∧
    (statusWord st).getLsbD 2 = st.ksv ∧ (statusWord st).getLsbD 3 = false ∧
    (statusWord st).extractLsb' 4 4 = st.err ∧ (statusWord st).extractLsb' 8 7 = st.outw ∧
    (statusWord st).getLsbD 15 = false ∧ (statusWord st).extractLsb' 16 6 = st.errIdx ∧
    (statusWord st).extractLsb' 22 2 = st.errKind ∧ (statusWord st).extractLsb' 24 4 = st.lastOp ∧
    (statusWord st).extractLsb' 28 36 = 0 := by
  unfold statusWord
  refine ⟨?_, ?_, ?_, ?_, ?_, ?_, ?_, ?_, ?_, ?_, ?_⟩
  all_goals
    simp (disch := decide) [-Nat.reduceAdd, -BitVec.getLsbD_eq_getElem, BitVec.getLsbD_append,
      BitVec.extractLsb'_append_eq_of_le, BitVec.extractLsb'_append_eq_of_add_le]

/-! ### The obligations -/

/-- Settles O38: with BUSY = 0 the answer is the STATUS word. -/
theorem statusWordHasItsFields : Obligations.StatusWordHasItsFields := by
  intro s hb
  have fields := statusWord_fields s.status
  rw [hb] at fields
  exact ⟨statusWord s.status, responseOf_of_idle hb (r := .status) rfl, fields⟩

/-- Settles O6: each register of the reset state holds 0, and a reserved index answers 0. -/
theorem resetReadsZeroEverywhere : Obligations.ResetReadsZeroEverywhere := by
  intro idx
  cases hr : regOfIndex idx with
  | none => exact responseOf_of_reserved ((regOfIndex_eq_none_iff idx).mp hr) State.reset
  | some r =>
    have zero : registerValue r State.reset = 0 := by
      cases r with
      | cmd | status | din | dout => decide
      | k i | c i | d i | tab i => decide +revert
    rw [responseOf_of_idle rfl ((regOfIndex_eq_some_iff idx r).mp hr), zero]

/-- Settles O39: the answer is the value of the register that has the index, or 0. -/
theorem readAnswersTheRegister : Obligations.ReadAnswersTheRegister := by
  intro s hb
  refine ⟨fun idx => ?_, responseOf_of_idle hb (r := .cmd) rfl, responseOf_of_idle hb (r := .status) rfl,
    responseOf_of_idle hb (r := .din) rfl, responseOf_of_idle hb (r := .dout) rfl,
    responseOf_of_idle hb (r := .k 0) rfl, fun i => ?_, fun i => responseOf_of_idle hb (r := .c i) rfl,
    fun i => responseOf_of_idle hb (r := .d i) rfl, fun j => responseOf_of_idle hb (r := .tab j) rfl,
    fun idx h => responseOf_of_reserved h s⟩
  · have read := hostRead_of_idle idx hb
    exact ⟨_, congrArg Host.Outcome.next read, congrArg State.response read⟩
  · exact (responseOf_of_idle hb (indexOfReg_k_succ i).symm).trans (congrArg some (subkeyWord_succ s.sched i))

/-- Settles O40: while BUSY = 1 the result registers and STATUS read as draws, the host's own as stored. -/
theorem readWhileBusyIsADraw : Obligations.ReadWhileBusyIsADraw := by
  intro s hb
  refine ⟨fun idx h => ?_, ⟨Config.freeWord s.draws ||| 1#64, by simp, fun b hb1 => ?_, ?_⟩, ?_, ?_, fun j => ?_,
    fun idx h => congrArg Host.Outcome.next (hostRead_of_reserved h s)⟩
  · obtain ⟨r, rfl, draw⟩ := exists_busyRead_eq_free h
    exact congrArg Host.Outcome.next (hostRead_of_draw hb (draw _))
  · have : b ≠ 0 := by omega
    simp [BitVec.getLsbD_one, this]
  · exact congrArg Host.Outcome.next (hostRead_status_of_busy hb)
  · exact congrArg Host.Outcome.next (hostRead_of_stored hb (r := .cmd) rfl)
  · exact congrArg Host.Outcome.next (hostRead_of_stored hb (r := .din) rfl)
  · exact congrArg Host.Outcome.next (hostRead_of_stored hb (r := .tab j) rfl)

/-- Settles O42: with BUSY = 0 a write stores the register that has the index; an index that is not guarded stores
nothing. -/
theorem writeStoresTheRegister : Obligations.WriteStoresTheRegister := by
  refine ⟨fun v s hb => ⟨hostWrite_of_idle hb .cmd v, hostWrite_of_idle hb .din v, fun j => ?_⟩,
    fun idx v s h => hostWrite_of_not_guarded h v s⟩
  exact ⟨writeTab j v s, hostWrite_of_idle hb (.tab j) v, rfl,
    (writeTab_tab_same j v s).trans (BitVec.setWidth_eq_extractLsb' (by decide)), fun i hi => writeTab_tab_of_ne hi v s⟩

/-- Settles O46: what is stored is what is read; a write of DIN or TAB changes no other register. -/
theorem writtenValueReadsBack : Obligations.WrittenValueReadsBack := by
  intro v s hb
  have idleDin : (writeDin v s).status.busy = false := hb
  have idleTab (j : Fin 64) : (writeTab j v s).status.busy = false := hb
  refine ⟨⟨issue v s, hostWrite_of_idle hb .cmd v, ?_⟩,
    ⟨writeDin v s, hostWrite_of_idle hb .din v, responseOf_of_idle idleDin (r := .din) rfl, fun idx => ?_⟩,
    fun j => ⟨writeTab j v s, hostWrite_of_idle hb (.tab j) v, ?_, fun idx => ?_⟩⟩
  · exact congrArg State.response (hostRead_of_stored (s := issue v s) rfl (r := .cmd) rfl)
  · exact responseOf_eq_of_registerValue_eq hb idleDin fun r hr => registerValue_writeDin_of_ne hr v s
  · refine (responseOf_of_idle (idleTab j) (r := .tab j) rfl).trans ?_
    rw [registerValue, writeTab_tab_same, zext64_setWidth_seven]
  · exact responseOf_eq_of_registerValue_eq hb (idleTab j) fun r hr => registerValue_writeTab_of_ne hr v s

end Sys2Proof.Machine
end

section
/-!
PROOFS. PERM with legal operands (R107), and which errors a command and a step can leave (R171, R30, R31).
-/

namespace Sys2Proof.Machine

/-! ### PERM's checks -/

/-- R101, R107: the entries below TLEN are in range. -/
theorem firstBadEntry_tableOperand_eq_none {srcw : Nat} {tlen : Entry} {s : State} (h64 : tlen.toNat ≤ 64)
    (hgood : ∀ j : Fin 64, j.val < tlen.toNat → 1 ≤ s.tab[j].toNat ∧ s.tab[j].toNat ≤ srcw) :
    firstBadEntry srcw (tableOperand tlen s) = none := by
  rw [firstBadEntry_eq_none_iff]
  intro p hp
  obtain ⟨i, hi, rfl⟩ := List.getElem_of_mem hp
  rw [tableOperand_length tlen s h64] at hi
  rw [tableOperand_getElem tlen s i _ (by omega)]
  exact hgood ⟨i, by omega⟩ hi

/-- R107: PERM's checks pass on legal operands. -/
theorem permCheck_eq_none {srcw tlen : Entry} {s : State} (ht : widthInRange tlen = true)
    (hs : widthInRange srcw = true)
    (hgood : ∀ j : Fin 64, j.val < tlen.toNat → 1 ≤ s.tab[j].toNat ∧ s.tab[j].toNat ≤ srcw.toNat) :
    permCheck srcw tlen s = none := by
  have h64 : tlen.toNat ≤ 64 := ((widthInRange_eq_true_iff tlen).mp ht).2
  rw [permCheck_of_widths ht hs, firstBadEntry_tableOperand_eq_none h64 hgood, Option.map_none]

/-- R30, R31: a failed check has ERRKIND 0, 1 or 2, and an ERRIDX only with ERRKIND 0. -/
theorem permCheck_some {srcw tlen : Entry} {s : State} {idx : BitVec 6} {kind : BitVec 2}
    (h : permCheck srcw tlen s = some (idx, kind)) : kind ≠ 3 ∧ (kind ≠ 0 → idx = 0) := by
  obtain ⟨-, e⟩ | ⟨-, -, e⟩ | ⟨-, -, i, -, e⟩ | ⟨-, -, -, e⟩ := permCheck_cases srcw tlen s <;>
    cases e.symm.trans h
  · decide
  · decide
  · exact ⟨by decide, fun h0 => absurd rfl h0⟩

/-! ### PERM's result -/

/-- R102: the source operand has the bits of DIN below its width. -/
theorem sourceOperand_getLsbD {w b : Nat} (hb : b < w) (s : State) :
    (sourceOperand w s).getLsbD b = s.din.getLsbD b := by
  simp [sourceOperand, hb]

/-- R100, R107: each bit of PERM's result is the DIN bit its entry names. -/
theorem permute_tableOperand_getLsbD {srcw tlen : Entry} {s : State} (h64 : tlen.toNat ≤ 64) (hs : 1 ≤ srcw.toNat)
    {j : Fin 64} (hj : j.val < tlen.toNat) (hentry : 1 ≤ s.tab[j].toNat) :
    (zext64 (permute (tableOperand tlen s) (sourceOperand srcw.toNat s))).getLsbD (tlen.toNat - 1 - j.val) =
      s.din.getLsbD (srcw.toNat - s.tab[j].toNat) := by
  have length := tableOperand_length tlen s h64
  have entry : (tableOperand tlen s)[j.val]'(by omega) = s.tab[j].toNat :=
    tableOperand_getElem tlen s j.val (by omega) j.isLt
  rw [zext64_getLsbD (by omega), ← length, permute_getLsbD _ _ j.val (by omega), entry,
    sourceOperand_getLsbD (by omega)]

/-! ### Errors -/

/-- R171: every command leaves no error, but for PERM with error 1 and ILLEGAL with error 4. -/
theorem exec_command_errors {i : Instr} {s t : State} (hi : i.isCommand = true) (h : exec i s = .next t) :
    NoError t ∨
    ((∃ srcw tlen, i = .perm srcw tlen) ∧ t.status.err = 1 ∧ t.status.errKind ≠ 3 ∧
      (t.status.errKind ≠ 0 → t.status.errIdx = 0)) ∨
    ((∃ w, i = .illegal w) ∧ t.status.err = 4 ∧ t.status.errIdx = 0 ∧ t.status.errKind = 0) := by
  cases i with
  | nop | pc1 | pc2 | ksgen | ip =>
    obtain rfl := Host.Outcome.next.inj h
    exact .inl ⟨rfl, rfl, rfl⟩
  | perm srcw tlen =>
    cases check : permCheck srcw tlen s with
    | none =>
      obtain rfl := Host.Outcome.next.inj ((exec_perm_of_permCheck_none check).symm.trans h)
      exact .inl ⟨rfl, rfl, rfl⟩
    | some failure =>
      obtain rfl := Host.Outcome.next.inj ((exec_perm_of_permCheck_some check).symm.trans h)
      exact .inr (.inl ⟨⟨srcw, tlen, rfl⟩, rfl, permCheck_some check⟩)
  | illegal w =>
    obtain rfl := Host.Outcome.next.inj h
    exact .inr (.inr ⟨⟨w, rfl⟩, rfl, rfl, rfl⟩)
  | rd idx | wr idx v => cases hi

/-- R171: the codes a command can leave in ERR. -/
theorem exec_command_err {i : Instr} {s t : State} (hi : i.isCommand = true) (h : exec i s = .next t) :
    t.status.err = 0 ∨ t.status.err = 1 ∨ t.status.err = 4 := by
  obtain ⟨err, -⟩ | ⟨-, err, -⟩ | ⟨-, err, -⟩ := exec_command_errors hi h
  · exact .inl err
  · exact .inr (.inl err)
  · exact .inr (.inr err)

/-- R65: a host write does not write ERR. -/
theorem hostWrite_keeps_err {idx : RegIndex} {v : Word} {s t : State} (h : hostWrite idx v s = .next t) :
    t.status.err = s.status.err := by
  obtain ⟨-, -, rfl⟩ | ⟨status, -⟩ := hostWrite_issues_or_keeps_status h
  · rfl
  · rw [status]

/-! ### The obligations -/

/-- Settles O20: the checks pass, so PERM writes the permutation, by bits and with the frame of a result. -/
theorem permWritesThePermutation : Obligations.PermWritesThePermutation := by
  intro srcw tlen s _ ht1 ht64 hs1 hs64 hgood
  have check : permCheck srcw tlen s = none :=
    permCheck_eq_none ((widthInRange_eq_true_iff tlen).mpr ⟨ht1, ht64⟩)
      ((widthInRange_eq_true_iff srcw).mpr ⟨hs1, hs64⟩) hgood
  refine ⟨_, exec_perm_of_permCheck_none check, fun j hj => ?_, fun b hb => ?_,
    resultWritten_complete_writeResult tlen _ s⟩
  · exact permute_tableOperand_getLsbD ht64 hs1 hj (hgood j hj).1
  · exact zext64_getLsbD_of_ge _ b ((tableOperand_length tlen s ht64).le.trans hb)

/-- Settles O54: the errors of each command; of what a step can do, only a completion and a reset write ERR. -/
theorem onlyTheListedErrorsAreWritten : Obligations.OnlyTheListedErrorsAreWritten := by
  refine ⟨fun i s t hi h => exec_command_errors hi h, fun s t h hchanged => ?_⟩
  obtain ⟨hm, rfl⟩ | ⟨hm, hb, e⟩ | ⟨-, -, kept⟩ | ⟨-, _, _, _, _, -, -, e⟩ := step_next_cases h
  · exact ⟨.inl rfl, .inl hm⟩
  · exact ⟨exec_command_err (decodeCommand_isCommand s.pend) e, .inr ⟨hm, hb⟩⟩
  · obtain ⟨-, status, -⟩ := kept
    exact absurd (congrArg Status.err status) hchanged
  · exact absurd (hostWrite_keeps_err e) hchanged

end Sys2Proof.Machine
end

section
/-!
PROOFS. Which registers each agent writes (R23, R24, R34, R35, R42, R44), that none changes while a command is pending
(R74, R78, R194), and that only a guarded write while busy stops the machine (R180).
-/

namespace Sys2Proof.Machine

/-! ### What a host write leaves -/

/-- R65: what a host write that does not fault has done, with BUSY = 0 where it stored. -/
theorem hostWrite_next_cases {idx : RegIndex} {v : Word} {s t : State} (h : hostWrite idx v s = .next t) :
    (idx = indexOfReg .cmd ∧ s.status.busy = false ∧ t = issue v s) ∨
    (idx = indexOfReg .din ∧ s.status.busy = false ∧ t = writeDin v s) ∨
    (∃ j, idx = indexOfReg (.tab j) ∧ s.status.busy = false ∧ t = writeTab j v s) ∨ t = s := by
  obtain ⟨hi, hb, e⟩ | ⟨hi, hb, e⟩ | ⟨j, hi, hb, e⟩ | ⟨-, e⟩ | ⟨-, -, e⟩ := hostWrite_cases idx v s <;>
    cases h.symm.trans e
  · exact .inl ⟨hi, hb, rfl⟩
  · exact .inr (.inl ⟨hi, hb, rfl⟩)
  · exact .inr (.inr (.inl ⟨j, hi, hb, rfl⟩))
  · exact .inr (.inr (.inr rfl))

/-- R180: while BUSY = 1 a host write that does not fault stores nothing. -/
theorem hostWrite_next_of_busy {idx : RegIndex} {v : Word} {s t : State} (hb : s.status.busy = true)
    (h : hostWrite idx v s = .next t) : t = s := by
  obtain ⟨-, hidle, -⟩ | ⟨-, hidle, -⟩ | ⟨j, -, hidle, -⟩ | same := hostWrite_next_cases h
  case inr.inr.inr => exact same
  all_goals exact absurd (hb.symm.trans hidle) (by decide)

/-- R24, R35: a host write leaves DOUT, the schedule file, and every field of STATUS but BUSY. -/
theorem hostWrite_keeps_results {idx : RegIndex} {v : Word} {s t : State} (h : hostWrite idx v s = .next t) :
    t.dout = s.dout ∧ t.sched = s.sched ∧ t.status = { s.status with busy := t.status.busy } := by
  obtain ⟨-, -, rfl⟩ | ⟨-, -, rfl⟩ | ⟨j, -, -, rfl⟩ | rfl := hostWrite_next_cases h <;> exact ⟨rfl, rfl, rfl⟩

/-- R23, R44: CMD and PEND change only by a write of CMD, to its value. -/
theorem hostWrite_cmd_changed {idx : RegIndex} {v : Word} {s t : State} (h : hostWrite idx v s = .next t)
    (hchanged : t.cmd ≠ s.cmd ∨ t.pend ≠ s.pend) : idx = indexOfReg .cmd ∧ t.cmd = v ∧ t.pend = v := by
  obtain ⟨hi, -, rfl⟩ | ⟨-, -, rfl⟩ | ⟨j, -, -, rfl⟩ | rfl := hostWrite_next_cases h
  case inl => exact ⟨hi, rfl, rfl⟩
  all_goals simp at hchanged

/-- R34: DIN changes only by a write of DIN, to its value. -/
theorem hostWrite_din_changed {idx : RegIndex} {v : Word} {s t : State} (h : hostWrite idx v s = .next t)
    (hchanged : t.din ≠ s.din) : idx = indexOfReg .din ∧ t.din = v := by
  obtain ⟨-, -, rfl⟩ | ⟨hi, -, rfl⟩ | ⟨j, -, -, rfl⟩ | rfl := hostWrite_next_cases h
  case inr.inl => exact ⟨hi, rfl⟩
  all_goals exact absurd rfl hchanged

/-- R42: a TAB entry changes only by a write of that entry, to bits 6:0 of its value. -/
theorem hostWrite_tab_changed {idx : RegIndex} {v : Word} {s t : State} (h : hostWrite idx v s = .next t) {j : Fin 64}
    (hchanged : t.tab[j] ≠ s.tab[j]) : idx = indexOfReg (.tab j) ∧ t.tab[j] = v.extractLsb' 0 7 := by
  obtain ⟨-, -, rfl⟩ | ⟨-, -, rfl⟩ | ⟨i, hi, -, rfl⟩ | rfl := hostWrite_next_cases h
  case inr.inr.inl =>
    have same : j = i := by_contra fun hne => hchanged (writeTab_tab_of_ne hne v s)
    subst same
    exact ⟨hi, (writeTab_tab_same j v s).trans (BitVec.setWidth_eq_extractLsb' (by decide))⟩
  all_goals exact absurd rfl hchanged

/-! ### What stops a step -/

/-- R180: a guarded access next while BUSY = 1 is the fault. -/
theorem step_of_nextWriteGuarded {s : State} {idx : RegIndex} (hm : mover s = .host) (hb : s.status.busy = true)
    (h : nextWriteGuarded s idx) : step s = .fault (.hostWriteWhileBusy idx) := by
  obtain ⟨t, rest, v, r, hhost, hdecode, hr, hg⟩ := h
  obtain rfl := (regOfIndex_eq_some_iff idx r).mp hr
  rw [step_of_host_of_access hm hhost, hdecode, exec_wr]
  exact hostWrite_of_busy (s := popHost (popTurn s)) hb hg v

/-- R180: a step leaves a state, or the host's guarded access while BUSY = 1 is the fault. -/
theorem step_next_or_fault (s : State) :
    (∃ t, step s = .next t) ∨
    (mover s = .host ∧ s.status.busy = true ∧
      ∃ idx, nextWriteGuarded s idx ∧ step s = .fault (.hostWriteWhileBusy idx)) := by
  obtain ⟨-, e⟩ | ⟨-, -, e⟩ | ⟨-, -, e⟩ | ⟨-, -, e⟩ | ⟨-, -, e | e⟩ |
    ⟨hm, tr, rest, hh, ⟨idx, -, e⟩ | ⟨idx, v, hd, e⟩⟩ := step_cases s
  case inr.inl =>
    obtain ⟨t, completes, -⟩ := exec_command_completes (decodeCommand_isCommand s.pend) (popTurn s)
    exact .inl ⟨t, e.trans completes⟩
  case inr.inr.inr.inr.inr.inr =>
    obtain ⟨-, -, w⟩ | ⟨-, -, w⟩ | ⟨j, -, -, w⟩ | ⟨-, w⟩ | ⟨hb, ⟨r, hr, hg⟩, w⟩ :=
      hostWrite_cases idx v (popHost (popTurn s))
    case inr.inr.inr.inr => exact .inr ⟨hm, hb, idx, ⟨tr, rest, v, r, hh, hd, hr, hg⟩, e.trans w⟩
    all_goals exact .inl ⟨_, e.trans w⟩
  all_goals exact .inl ⟨_, e⟩

/-! ### The obligations -/

/-- Settles O52: reset and completion clear BUSY; of the other steps only a host write could reach a register, and while
BUSY = 1 it stores nothing. -/
theorem nothingChangesWhileBusy : Obligations.NothingChangesWhileBusy := by
  intro s t hb h ht
  obtain ⟨-, rfl⟩ | ⟨-, -, e⟩ | ⟨-, -, kept⟩ | ⟨-, _, _, idx, v, -, -, e⟩ := step_next_cases h
  · cases ht
  · have cleared := exec_command_clears_busy (decodeCommand_isCommand s.pend) e
    exact absurd (ht.symm.trans cleared) (by decide)
  · exact kept
  · obtain rfl := hostWrite_next_of_busy (s := popHost (popTurn s)) hb e
    exact ⟨rfl, rfl, rfl, rfl, rfl, rfl, rfl⟩

/-- Settles O53: a completion keeps the host's registers; of the host's steps a write alone reaches a register, and only
the one its index names. -/
theorem hostAndEngineWriteTheirOwnRegisters : Obligations.HostAndEngineWriteTheirOwnRegisters := by
  intro s t h
  obtain ⟨hm, -⟩ | ⟨hm, -, e⟩ | ⟨-, -, kept⟩ | ⟨hm, tr, rest, idx, v, hhost, hdecode, e⟩ := step_next_cases h
  · simp [hm]
  · obtain ⟨t', e', -, -, kept, -⟩ := exec_command_completes (decodeCommand_isCommand s.pend) (popTurn s)
    obtain rfl := Host.Outcome.next.inj (e'.symm.trans e)
    exact ⟨fun _ => kept, by simp [hm]⟩
  · obtain ⟨cmd, status, din, dout, sched, tab, pend⟩ := kept
    exact ⟨fun _ => ⟨cmd, din, tab, pend⟩, by simp [cmd, status, din, dout, sched, tab, pend]⟩
  · refine ⟨by simp [hm], fun _ => ?_⟩
    obtain ⟨dout, sched, status⟩ := hostWrite_keeps_results e
    refine ⟨dout, sched, status, fun hchanged => ?_, fun hchanged => ?_, fun j hchanged => ?_⟩
    · obtain ⟨rfl, cmd, pend⟩ := hostWrite_cmd_changed e hchanged
      exact ⟨tr, rest, v, hhost, hdecode, cmd, pend⟩
    · obtain ⟨rfl, rfl⟩ := hostWrite_din_changed e hchanged
      exact ⟨tr, rest, hhost, hdecode⟩
    · obtain ⟨rfl, entry⟩ := hostWrite_tab_changed e hchanged
      exact ⟨tr, rest, v, hhost, hdecode, entry⟩

/-- Settles O55: a step leaves a state or faults, and it faults exactly on a guarded write while BUSY = 1. -/
theorem onlyBusyWritesStopTheMachine : Obligations.OnlyBusyWritesStopTheMachine := by
  refine ⟨fun s f => ⟨fun h => ?_, ?_⟩, fun s r h => ?_, fun s => ⟨?_, fun h => ?_⟩⟩
  · obtain ⟨t, e⟩ | ⟨hm, hb, idx, hw, e⟩ := step_next_or_fault s
    · cases e.symm.trans h
    · exact ⟨hm, hb, idx, hw, Host.Outcome.fault.inj (h.symm.trans e)⟩
  · rintro ⟨hm, hb, idx, hw, rfl⟩
    exact step_of_nextWriteGuarded hm hb hw
  · obtain ⟨t, e⟩ | ⟨-, -, idx, -, e⟩ := step_next_or_fault s <;> cases e.symm.trans h
  · rintro ⟨t, e⟩ ⟨hm, hb, idx, hw⟩
    cases e.symm.trans (step_of_nextWriteGuarded hm hb hw)
  · obtain safe | ⟨hm, hb, idx, hw, -⟩ := step_next_or_fault s
    · exact safe
    · exact absurd ⟨hm, hb, idx, hw⟩ h

end Sys2Proof.Machine
end

section
/-!
PROOFS. Host assembly (R92): the accesses the pseudo-instructions stand for, and that the polling loop WAIT ends under
every interleaving in which the engine moves at last (R198).
-/

namespace Sys2Proof.Machine

/-! ### Assembled lines -/

/-- R161: on an idle machine with no turn listed, a write of CMD next is the issue of its value. -/
theorem step_issues {s : State} {v : Word} {ops : List HostOp} (hb : s.status.busy = false) (hturns : s.turns = [])
    (hhost : s.host = .access (writeTransaction (indexOfReg .cmd) v) :: ops) :
    ∃ t, step s = .next t ∧ t.status.busy = true ∧ t.host = ops ∧ t.cmd = t.pend ∧ t.pend = v := by
  refine ⟨issue v (popHost s), ?_, rfl, congrArg List.tail hhost, rfl, rfl⟩
  rw [step_of_host_of_access (mover_of_no_turns_of_idle hturns hb) hhost, popTurn_of_no_turns hturns,
    decodeTransaction_writeTransaction]
  exact exec_wr_cmd_of_idle (s := popHost s) hb v

theorem ldtabWrites_length (j : Nat) (es : List Word) : (ldtabWrites j es).length = es.length := by
  induction es generalizing j with
  | nil => rfl
  | cons e es ih => rw [ldtabWrites, List.length_cons, List.length_cons, ih]

/-- R92: the n-th access of LDTAB writes its n-th entry to the n-th index from TAB<j> on. -/
theorem ldtabWrites_getElem? (j : Nat) (es : List Word) {n : Nat} (h : n < es.length) :
    (ldtabWrites j es)[n]? = some (.access (writeTransaction (BitVec.ofNat 8 (0x80 + j + n)) es[n])) := by
  induction es generalizing j n with
  | nil => cases h
  | cons e es ih =>
    cases n with
    | zero => rfl
    | succ n =>
      have next : 0x80 + (j + 1) + n = 0x80 + j + (n + 1) := by omega
      rw [ldtabWrites, List.getElem?_cons_succ, ih (j + 1) (Nat.lt_of_succ_lt_succ h), next]
      rfl

/-- R92: an LDTAB line that the spec admits is assembled. -/
theorem assemble_ldtab {j : Fin 64} {es : List Word} (hpos : 0 < es.length) (h64 : j.val + es.length ≤ 64) :
    assemble (.ldtab j es) = ldtabWrites j.val es := by
  refine if_pos ?_
  simp only [AsmLine.wellFormed, Bool.and_eq_true, decide_eq_true_eq]
  exact ⟨hpos, h64⟩

/-! ### Runs that wait -/

/-- R199: an ended run stays ended, whoever has the turn. -/
theorem step_of_runEnded {s : State} (h : RunEnded s) :
    ∃ t, step s = .next t ∧ RunEnded t ∧ t.turns = s.turns.tail := by
  obtain ⟨hhost, hb⟩ := h
  cases hm : mover s with
  | engine => exact ⟨popTurn s, (step_of_mover_engine hm).trans (engineTurn_of_idle hb), ⟨hhost, hb⟩, rfl⟩
  | host => exact ⟨popTurn s, (step_of_mover_host hm).trans (hostTurn_of_nothing_left hhost), ⟨hhost, hb⟩, rfl⟩
  | reset => exact ⟨applyReset (popTurn s), step_of_mover_reset hm, ⟨hhost, rfl⟩, rfl⟩

/-- R92: with BUSY = 0 the host's poll ends its last WAIT, and so the run. -/
theorem step_of_wait_of_idle {s : State} (hhost : s.host = [.wait]) (hm : mover s = .host)
    (hb : s.status.busy = false) : ∃ t, step s = .next t ∧ RunEnded t ∧ t.turns = s.turns.tail := by
  refine ⟨_, (step_of_host_of_wait hm hhost).trans (pollTurn_of_idle (s := popTurn s) hb), ⟨?_, hb⟩, rfl⟩
  simp [hhost]

/-- R160: a completion keeps what the host has to do, and leaves BUSY = 0. -/
theorem step_of_wait_of_engine {s : State} (hhost : s.host = [.wait]) (hm : mover s = .engine) :
    ∃ t, step s = .next t ∧ t.host = [.wait] ∧ t.status.busy = false ∧ t.turns = s.turns.tail := by
  cases hb : s.status.busy with
  | false => exact ⟨popTurn s, (step_of_mover_engine hm).trans (engineTurn_of_idle hb), hhost, hb, rfl⟩
  | true =>
    obtain ⟨t, e, busy, -, -, host, turns, -⟩ :=
      exec_command_completes (decodeCommand_isCommand s.pend) (popTurn s)
    exact ⟨t, (step_of_engine_of_busy hm hb).trans e, host.trans hhost, busy, turns⟩

/-- R92, R160, R190: whoever has the turn, a host with only a WAIT left is still at it, or the run has ended. -/
theorem step_of_wait {s : State} (hhost : s.host = [.wait]) :
    ∃ t, step s = .next t ∧ (t.host = [.wait] ∨ RunEnded t) ∧ t.turns = s.turns.tail := by
  cases hm : mover s with
  | reset => exact ⟨applyReset (popTurn s), step_of_mover_reset hm, .inl hhost, rfl⟩
  | engine =>
    obtain ⟨t, e, host, -, turns⟩ := step_of_wait_of_engine hhost hm
    exact ⟨t, e, .inl host, turns⟩
  | host =>
    cases hb : s.status.busy with
    | false =>
      obtain ⟨t, e, ended, turns⟩ := step_of_wait_of_idle hhost hm hb
      exact ⟨t, e, .inr ended, turns⟩
    | true =>
      have poll : step s = .next (respond (Config.freeWord s.draws ||| 1#64) (countDraw (popTurn s))) :=
        (step_of_host_of_wait hm hhost).trans (pollTurn_of_busy (s := popTurn s) hb)
      exact ⟨_, poll, .inl hhost, rfl⟩

theorem run_succ {M : Host.Core} {s t : M.State} (h : M.step s = .next t) (k : Nat) :
    M.run (k + 1) s = M.run k t := by
  rw [Host.Core.run, h]

/-- R199: the run of `k` steps from this state has ended. -/
def EndsWithin (k : Nat) (s : State) : Prop :=
  ∃ t : State, Host.Core.run Sys2Proof.core k s = .next t ∧ RunEnded t

theorem EndsWithin.of_step {s t : State} (h : step s = .next t) {k : Nat} (ht : EndsWithin k t) :
    EndsWithin (k + 1) s := by
  obtain ⟨u, e, ended⟩ := ht
  exact ⟨u, (run_succ (M := Sys2Proof.core) h k).trans e, ended⟩

theorem endsWithin_of_runEnded (k : Nat) {s : State} (h : RunEnded s) : EndsWithin k s := by
  induction k generalizing s with
  | zero => exact ⟨s, rfl, h⟩
  | succ k ih =>
    obtain ⟨t, e, ended, -⟩ := step_of_runEnded h
    exact (ih ended).of_step e

/-- R198: past the end of the turns a WAIT ends in two steps: the engine completes a pending command, and the host polls
BUSY = 0. -/
theorem endsWithin_two_of_wait {s : State} (hhost : s.host = [.wait]) (hturns : s.turns = []) : EndsWithin 2 s := by
  cases hb : s.status.busy with
  | false =>
    obtain ⟨t, e, ended, -⟩ := step_of_wait_of_idle hhost (mover_of_no_turns_of_idle hturns hb) hb
    exact (endsWithin_of_runEnded 1 ended).of_step e
  | true =>
    have engineMoves : mover s = .engine := by simp [mover, hturns, hb]
    obtain ⟨t, e, host, busy, turns⟩ := step_of_wait_of_engine hhost engineMoves
    have noTurns : t.turns = [] := turns.trans (congrArg List.tail hturns)
    obtain ⟨u, e', ended, -⟩ := step_of_wait_of_idle host (mover_of_no_turns_of_idle noTurns busy) busy
    exact ((endsWithin_of_runEnded 0 ended).of_step e').of_step e

/-- R198: a WAIT ends once the listed turns are over. -/
theorem endsWithin_of_wait (turns : List Turn) {s : State} (hturns : s.turns = turns) (hhost : s.host = [.wait]) :
    EndsWithin (turns.length + 2) s := by
  induction turns generalizing s with
  | nil => exact endsWithin_two_of_wait hhost hturns
  | cons turn rest ih =>
    rw [List.length_cons, Nat.add_right_comm]
    obtain ⟨t, e, host | ended, turns⟩ := step_of_wait hhost
    · exact (ih (turns.trans (congrArg List.tail hturns)) host).of_step e
    · exact (endsWithin_of_runEnded _ ended).of_step e

/-! ### The obligations -/

/-- Settles O15: each command line is one write of CMD, whose value is the word that encodes the command; LDTAB by its
entries. -/
theorem assembledLinesIssueTheirCommands : Obligations.AssembledLinesIssueTheirCommands := by
  refine ⟨fun srcw tlen s ops hb hturns p hp hhost => ?_, by decide, fun j es n h h64 => ?_, rfl⟩
  · obtain ⟨v, line, word⟩ : ∃ v, assemble p.1 = [.access (writeTransaction (indexOfReg .cmd) v)] ∧
        decodeCommand v = p.2 := by
      simp only [List.mem_cons, List.not_mem_nil, or_false] at hp
      obtain rfl | rfl | rfl | rfl | rfl | rfl := hp
      case inr.inl => exact ⟨permWord srcw tlen, rfl, decodeCommand_permWord srcw tlen⟩
      all_goals exact ⟨_, rfl, by decide⟩
    rw [line] at hhost
    obtain ⟨t, e, busy, host, cmd, rfl⟩ := step_issues hb hturns hhost
    exact ⟨t, e, busy, host, cmd, word⟩
  · rw [assemble_ldtab (by omega) h64]
    exact ⟨ldtabWrites_length j.val es, _, ldtabWrites_getElem? j.val es h, decodeTransaction_writeTransaction _ _⟩

/-- Settles O56: by induction on the listed turns, each of which leaves the WAIT or ends the run. -/
theorem waitLoopsEnd : Obligations.WaitLoopsEnd := by
  intro s hhost
  obtain ⟨t, e, host, busy⟩ := endsWithin_of_wait s.turns rfl hhost
  exact ⟨t, e, host, busy⟩

end Sys2Proof.Machine
end
